-- ==== Sys2Proof/Word.lean ====
section
/-! DEFINITION. The widths of the hardware (spec/00_scope.md R5: XLEN8, ALEN, PORTLEN) as bit vectors. -/

namespace Sys2Proof

/-- An 8-bit register, a memory byte, an opcode or a port number (R5 XLEN8, PORTLEN). -/
abbrev Byte := BitVec 8

/-- A 16-bit register pair, SP, PC or memory address (R5 ALEN). -/
abbrev Word := BitVec 16

end Sys2Proof
end

