-- ==== Sys2Proof/Syntax.lean ====
section
/-! DEFINITION. The instructions and their operands as syntax (spec/30_encoding.md R72, R75, R77). -/

namespace Sys2Proof

/-- The seven data registers (R21). -/
inductive Reg where
  | b | c | d | e | h | l | a
deriving DecidableEq, Repr

/-- An 8-bit operand named by a 3-bit code (R22): a register, or M, the memory byte at HL. -/
inductive Operand where
  | reg (r : Reg)
  | m
deriving DecidableEq, Repr

/-- The register pairs (R23). -/
inductive Pair where
  | bc | de | hl
deriving DecidableEq, Repr

/-- The operand of LXI, INX, DCX and DAD (R25, first column). -/
inductive RegPair where
  | pair (p : Pair)
  | sp
deriving DecidableEq, Repr

/-- The operand of LDAX and STAX (R206, R207: BC and DE only). -/
inductive IndexPair where
  | bc | de
deriving DecidableEq, Repr

/-- The ALU operations `aaa` (R72). -/
inductive AluOp where
  | add | adc | sub | sbb | ana | xra | ora | cmp
deriving DecidableEq, Repr

/-- The conditions `ccc` (R250). -/
inductive Cond where
  | nz | z | nc | c | po | pe | p | m
deriving DecidableEq, Repr

/-- The instructions: one constructor for each mnemonic of spec/opcode_table.json, in the table's order (R77). The
comment gives the opcode and the assembler form (R81). -/
inductive Instr where
  | nop  -- 0x00 NOP
  | lxiB (d16 : Word)  -- 0x01 LXI B,d16
  | staxB  -- 0x02 STAX B
  | inxB  -- 0x03 INX B
  | inrB  -- 0x04 INR B
  | dcrB  -- 0x05 DCR B
  | mviB (d8 : Byte)  -- 0x06 MVI B,d8
  | rlc  -- 0x07 RLC
  | invalid (op : Byte)  -- the 12 invalid values (R78), by their opcode byte
  | dadB  -- 0x09 DAD B
  | ldaxB  -- 0x0A LDAX B
  | dcxB  -- 0x0B DCX B
  | inrC  -- 0x0C INR C
  | dcrC  -- 0x0D DCR C
  | mviC (d8 : Byte)  -- 0x0E MVI C,d8
  | rrc  -- 0x0F RRC
  | lxiD (d16 : Word)  -- 0x11 LXI D,d16
  | staxD  -- 0x12 STAX D
  | inxD  -- 0x13 INX D
  | inrD  -- 0x14 INR D
  | dcrD  -- 0x15 DCR D
  | mviD (d8 : Byte)  -- 0x16 MVI D,d8
  | ral  -- 0x17 RAL
  | dadD  -- 0x19 DAD D
  | ldaxD  -- 0x1A LDAX D
  | dcxD  -- 0x1B DCX D
  | inrE  -- 0x1C INR E
  | dcrE  -- 0x1D DCR E
  | mviE (d8 : Byte)  -- 0x1E MVI E,d8
  | rar  -- 0x1F RAR
  | lxiH (d16 : Word)  -- 0x21 LXI H,d16
  | shld (a16 : Word)  -- 0x22 SHLD a16
  | inxH  -- 0x23 INX H
  | inrH  -- 0x24 INR H
  | dcrH  -- 0x25 DCR H
  | mviH (d8 : Byte)  -- 0x26 MVI H,d8
  | daa  -- 0x27 DAA
  | dadH  -- 0x29 DAD H
  | lhld (a16 : Word)  -- 0x2A LHLD a16
  | dcxH  -- 0x2B DCX H
  | inrL  -- 0x2C INR L
  | dcrL  -- 0x2D DCR L
  | mviL (d8 : Byte)  -- 0x2E MVI L,d8
  | cma  -- 0x2F CMA
  | lxiSp (d16 : Word)  -- 0x31 LXI SP,d16
  | sta (a16 : Word)  -- 0x32 STA a16
  | inxSp  -- 0x33 INX SP
  | inrM  -- 0x34 INR M
  | dcrM  -- 0x35 DCR M
  | mviM (d8 : Byte)  -- 0x36 MVI M,d8
  | stc  -- 0x37 STC
  | dadSp  -- 0x39 DAD SP
  | lda (a16 : Word)  -- 0x3A LDA a16
  | dcxSp  -- 0x3B DCX SP
  | inrA  -- 0x3C INR A
  | dcrA  -- 0x3D DCR A
  | mviA (d8 : Byte)  -- 0x3E MVI A,d8
  | cmc  -- 0x3F CMC
  | movBB  -- 0x40 MOV B,B
  | movBC  -- 0x41 MOV B,C
  | movBD  -- 0x42 MOV B,D
  | movBE  -- 0x43 MOV B,E
  | movBH  -- 0x44 MOV B,H
  | movBL  -- 0x45 MOV B,L
  | movBM  -- 0x46 MOV B,M
  | movBA  -- 0x47 MOV B,A
  | movCB  -- 0x48 MOV C,B
  | movCC  -- 0x49 MOV C,C
  | movCD  -- 0x4A MOV C,D
  | movCE  -- 0x4B MOV C,E
  | movCH  -- 0x4C MOV C,H
  | movCL  -- 0x4D MOV C,L
  | movCM  -- 0x4E MOV C,M
  | movCA  -- 0x4F MOV C,A
  | movDB  -- 0x50 MOV D,B
  | movDC  -- 0x51 MOV D,C
  | movDD  -- 0x52 MOV D,D
  | movDE  -- 0x53 MOV D,E
  | movDH  -- 0x54 MOV D,H
  | movDL  -- 0x55 MOV D,L
  | movDM  -- 0x56 MOV D,M
  | movDA  -- 0x57 MOV D,A
  | movEB  -- 0x58 MOV E,B
  | movEC  -- 0x59 MOV E,C
  | movED  -- 0x5A MOV E,D
  | movEE  -- 0x5B MOV E,E
  | movEH  -- 0x5C MOV E,H
  | movEL  -- 0x5D MOV E,L
  | movEM  -- 0x5E MOV E,M
  | movEA  -- 0x5F MOV E,A
  | movHB  -- 0x60 MOV H,B
  | movHC  -- 0x61 MOV H,C
  | movHD  -- 0x62 MOV H,D
  | movHE  -- 0x63 MOV H,E
  | movHH  -- 0x64 MOV H,H
  | movHL  -- 0x65 MOV H,L
  | movHM  -- 0x66 MOV H,M
  | movHA  -- 0x67 MOV H,A
  | movLB  -- 0x68 MOV L,B
  | movLC  -- 0x69 MOV L,C
  | movLD  -- 0x6A MOV L,D
  | movLE  -- 0x6B MOV L,E
  | movLH  -- 0x6C MOV L,H
  | movLL  -- 0x6D MOV L,L
  | movLM  -- 0x6E MOV L,M
  | movLA  -- 0x6F MOV L,A
  | movMB  -- 0x70 MOV M,B
  | movMC  -- 0x71 MOV M,C
  | movMD  -- 0x72 MOV M,D
  | movME  -- 0x73 MOV M,E
  | movMH  -- 0x74 MOV M,H
  | movML  -- 0x75 MOV M,L
  | hlt  -- 0x76 HLT
  | movMA  -- 0x77 MOV M,A
  | movAB  -- 0x78 MOV A,B
  | movAC  -- 0x79 MOV A,C
  | movAD  -- 0x7A MOV A,D
  | movAE  -- 0x7B MOV A,E
  | movAH  -- 0x7C MOV A,H
  | movAL  -- 0x7D MOV A,L
  | movAM  -- 0x7E MOV A,M
  | movAA  -- 0x7F MOV A,A
  | addB  -- 0x80 ADD B
  | addC  -- 0x81 ADD C
  | addD  -- 0x82 ADD D
  | addE  -- 0x83 ADD E
  | addH  -- 0x84 ADD H
  | addL  -- 0x85 ADD L
  | addM  -- 0x86 ADD M
  | addA  -- 0x87 ADD A
  | adcB  -- 0x88 ADC B
  | adcC  -- 0x89 ADC C
  | adcD  -- 0x8A ADC D
  | adcE  -- 0x8B ADC E
  | adcH  -- 0x8C ADC H
  | adcL  -- 0x8D ADC L
  | adcM  -- 0x8E ADC M
  | adcA  -- 0x8F ADC A
  | subB  -- 0x90 SUB B
  | subC  -- 0x91 SUB C
  | subD  -- 0x92 SUB D
  | subE  -- 0x93 SUB E
  | subH  -- 0x94 SUB H
  | subL  -- 0x95 SUB L
  | subM  -- 0x96 SUB M
  | subA  -- 0x97 SUB A
  | sbbB  -- 0x98 SBB B
  | sbbC  -- 0x99 SBB C
  | sbbD  -- 0x9A SBB D
  | sbbE  -- 0x9B SBB E
  | sbbH  -- 0x9C SBB H
  | sbbL  -- 0x9D SBB L
  | sbbM  -- 0x9E SBB M
  | sbbA  -- 0x9F SBB A
  | anaB  -- 0xA0 ANA B
  | anaC  -- 0xA1 ANA C
  | anaD  -- 0xA2 ANA D
  | anaE  -- 0xA3 ANA E
  | anaH  -- 0xA4 ANA H
  | anaL  -- 0xA5 ANA L
  | anaM  -- 0xA6 ANA M
  | anaA  -- 0xA7 ANA A
  | xraB  -- 0xA8 XRA B
  | xraC  -- 0xA9 XRA C
  | xraD  -- 0xAA XRA D
  | xraE  -- 0xAB XRA E
  | xraH  -- 0xAC XRA H
  | xraL  -- 0xAD XRA L
  | xraM  -- 0xAE XRA M
  | xraA  -- 0xAF XRA A
  | oraB  -- 0xB0 ORA B
  | oraC  -- 0xB1 ORA C
  | oraD  -- 0xB2 ORA D
  | oraE  -- 0xB3 ORA E
  | oraH  -- 0xB4 ORA H
  | oraL  -- 0xB5 ORA L
  | oraM  -- 0xB6 ORA M
  | oraA  -- 0xB7 ORA A
  | cmpB  -- 0xB8 CMP B
  | cmpC  -- 0xB9 CMP C
  | cmpD  -- 0xBA CMP D
  | cmpE  -- 0xBB CMP E
  | cmpH  -- 0xBC CMP H
  | cmpL  -- 0xBD CMP L
  | cmpM  -- 0xBE CMP M
  | cmpA  -- 0xBF CMP A
  | rnz  -- 0xC0 RNZ
  | popB  -- 0xC1 POP B
  | jnz (a16 : Word)  -- 0xC2 JNZ a16
  | jmp (a16 : Word)  -- 0xC3 JMP a16
  | cnz (a16 : Word)  -- 0xC4 CNZ a16
  | pushB  -- 0xC5 PUSH B
  | adi (d8 : Byte)  -- 0xC6 ADI d8
  | rst0  -- 0xC7 RST 0
  | rz  -- 0xC8 RZ
  | ret  -- 0xC9 RET
  | jz (a16 : Word)  -- 0xCA JZ a16
  | cz (a16 : Word)  -- 0xCC CZ a16
  | call (a16 : Word)  -- 0xCD CALL a16
  | aci (d8 : Byte)  -- 0xCE ACI d8
  | rst1  -- 0xCF RST 1
  | rnc  -- 0xD0 RNC
  | popD  -- 0xD1 POP D
  | jnc (a16 : Word)  -- 0xD2 JNC a16
  | outPort (p8 : Byte)  -- 0xD3 OUT p8
  | cnc (a16 : Word)  -- 0xD4 CNC a16
  | pushD  -- 0xD5 PUSH D
  | sui (d8 : Byte)  -- 0xD6 SUI d8
  | rst2  -- 0xD7 RST 2
  | rc  -- 0xD8 RC
  | jc (a16 : Word)  -- 0xDA JC a16
  | inPort (p8 : Byte)  -- 0xDB IN p8
  | cc (a16 : Word)  -- 0xDC CC a16
  | sbi (d8 : Byte)  -- 0xDE SBI d8
  | rst3  -- 0xDF RST 3
  | rpo  -- 0xE0 RPO
  | popH  -- 0xE1 POP H
  | jpo (a16 : Word)  -- 0xE2 JPO a16
  | xthl  -- 0xE3 XTHL
  | cpo (a16 : Word)  -- 0xE4 CPO a16
  | pushH  -- 0xE5 PUSH H
  | ani (d8 : Byte)  -- 0xE6 ANI d8
  | rst4  -- 0xE7 RST 4
  | rpe  -- 0xE8 RPE
  | pchl  -- 0xE9 PCHL
  | jpe (a16 : Word)  -- 0xEA JPE a16
  | xchg  -- 0xEB XCHG
  | cpe (a16 : Word)  -- 0xEC CPE a16
  | xri (d8 : Byte)  -- 0xEE XRI d8
  | rst5  -- 0xEF RST 5
  | rp  -- 0xF0 RP
  | popPsw  -- 0xF1 POP PSW
  | jp (a16 : Word)  -- 0xF2 JP a16
  | di  -- 0xF3 DI
  | cp (a16 : Word)  -- 0xF4 CP a16
  | pushPsw  -- 0xF5 PUSH PSW
  | ori (d8 : Byte)  -- 0xF6 ORI d8
  | rst6  -- 0xF7 RST 6
  | rm  -- 0xF8 RM
  | sphl  -- 0xF9 SPHL
  | jm (a16 : Word)  -- 0xFA JM a16
  | ei  -- 0xFB EI
  | cm (a16 : Word)  -- 0xFC CM a16
  | cpi (d8 : Byte)  -- 0xFE CPI d8
  | rst7  -- 0xFF RST 7
deriving DecidableEq, Repr

/-! ### The families of the map (R76, R77): which instruction an operand names -/

/-- MOV r1,r2 (R150): the 49 instructions `movBB` to `movAA`, destination first. -/
def Instr.mov : Reg → Reg → Instr
  | .b, .b => .movBB | .b, .c => .movBC | .b, .d => .movBD | .b, .e => .movBE | .b, .h => .movBH | .b, .l => .movBL
  | .b, .a => .movBA
  | .c, .b => .movCB | .c, .c => .movCC | .c, .d => .movCD | .c, .e => .movCE | .c, .h => .movCH | .c, .l => .movCL
  | .c, .a => .movCA
  | .d, .b => .movDB | .d, .c => .movDC | .d, .d => .movDD | .d, .e => .movDE | .d, .h => .movDH | .d, .l => .movDL
  | .d, .a => .movDA
  | .e, .b => .movEB | .e, .c => .movEC | .e, .d => .movED | .e, .e => .movEE | .e, .h => .movEH | .e, .l => .movEL
  | .e, .a => .movEA
  | .h, .b => .movHB | .h, .c => .movHC | .h, .d => .movHD | .h, .e => .movHE | .h, .h => .movHH | .h, .l => .movHL
  | .h, .a => .movHA
  | .l, .b => .movLB | .l, .c => .movLC | .l, .d => .movLD | .l, .e => .movLE | .l, .h => .movLH | .l, .l => .movLL
  | .l, .a => .movLA
  | .a, .b => .movAB | .a, .c => .movAC | .a, .d => .movAD | .a, .e => .movAE | .a, .h => .movAH | .a, .l => .movAL
  | .a, .a => .movAA

/-- MOV r,M (R151). -/
def Instr.movFromM : Reg → Instr
  | .b => .movBM | .c => .movCM | .d => .movDM | .e => .movEM | .h => .movHM | .l => .movLM | .a => .movAM

/-- MOV M,r (R152). -/
def Instr.movToM : Reg → Instr
  | .b => .movMB | .c => .movMC | .d => .movMD | .e => .movME | .h => .movMH | .l => .movML | .a => .movMA

/-- ADD S to CMP S (R160 to R167): the 64 instructions `addB` to `cmpA`. -/
def Instr.aluOp : AluOp → Operand → Instr
  | .add, .reg .b => .addB | .add, .reg .c => .addC | .add, .reg .d => .addD | .add, .reg .e => .addE
  | .add, .reg .h => .addH | .add, .reg .l => .addL | .add, .m => .addM | .add, .reg .a => .addA
  | .adc, .reg .b => .adcB | .adc, .reg .c => .adcC | .adc, .reg .d => .adcD | .adc, .reg .e => .adcE
  | .adc, .reg .h => .adcH | .adc, .reg .l => .adcL | .adc, .m => .adcM | .adc, .reg .a => .adcA
  | .sub, .reg .b => .subB | .sub, .reg .c => .subC | .sub, .reg .d => .subD | .sub, .reg .e => .subE
  | .sub, .reg .h => .subH | .sub, .reg .l => .subL | .sub, .m => .subM | .sub, .reg .a => .subA
  | .sbb, .reg .b => .sbbB | .sbb, .reg .c => .sbbC | .sbb, .reg .d => .sbbD | .sbb, .reg .e => .sbbE
  | .sbb, .reg .h => .sbbH | .sbb, .reg .l => .sbbL | .sbb, .m => .sbbM | .sbb, .reg .a => .sbbA
  | .ana, .reg .b => .anaB | .ana, .reg .c => .anaC | .ana, .reg .d => .anaD | .ana, .reg .e => .anaE
  | .ana, .reg .h => .anaH | .ana, .reg .l => .anaL | .ana, .m => .anaM | .ana, .reg .a => .anaA
  | .xra, .reg .b => .xraB | .xra, .reg .c => .xraC | .xra, .reg .d => .xraD | .xra, .reg .e => .xraE
  | .xra, .reg .h => .xraH | .xra, .reg .l => .xraL | .xra, .m => .xraM | .xra, .reg .a => .xraA
  | .ora, .reg .b => .oraB | .ora, .reg .c => .oraC | .ora, .reg .d => .oraD | .ora, .reg .e => .oraE
  | .ora, .reg .h => .oraH | .ora, .reg .l => .oraL | .ora, .m => .oraM | .ora, .reg .a => .oraA
  | .cmp, .reg .b => .cmpB | .cmp, .reg .c => .cmpC | .cmp, .reg .d => .cmpD | .cmp, .reg .e => .cmpE
  | .cmp, .reg .h => .cmpH | .cmp, .reg .l => .cmpL | .cmp, .m => .cmpM | .cmp, .reg .a => .cmpA

/-- ADI d8 to CPI d8 (R168 to R175). -/
def Instr.aluImm : AluOp → Byte → Instr
  | .add, d8 => .adi d8 | .adc, d8 => .aci d8 | .sub, d8 => .sui d8 | .sbb, d8 => .sbi d8 | .ana, d8 => .ani d8
  | .xra, d8 => .xri d8 | .ora, d8 => .ori d8 | .cmp, d8 => .cpi d8

/-- MVI r,d8 (R200). -/
def Instr.mvi : Reg → Byte → Instr
  | .b, d8 => .mviB d8 | .c, d8 => .mviC d8 | .d, d8 => .mviD d8 | .e, d8 => .mviE d8 | .h, d8 => .mviH d8
  | .l, d8 => .mviL d8 | .a, d8 => .mviA d8

/-- LXI rp,d16 (R202). -/
def Instr.lxi : RegPair → Word → Instr
  | .pair .bc, d16 => .lxiB d16 | .pair .de, d16 => .lxiD d16 | .pair .hl, d16 => .lxiH d16 | .sp, d16 => .lxiSp d16

/-- INX rp (R203). -/
def Instr.inx : RegPair → Instr
  | .pair .bc => .inxB | .pair .de => .inxD | .pair .hl => .inxH | .sp => .inxSp

/-- DCX rp (R204). -/
def Instr.dcx : RegPair → Instr
  | .pair .bc => .dcxB | .pair .de => .dcxD | .pair .hl => .dcxH | .sp => .dcxSp

/-- DAD rp (R205). -/
def Instr.dad : RegPair → Instr
  | .pair .bc => .dadB | .pair .de => .dadD | .pair .hl => .dadH | .sp => .dadSp

/-- LDAX rp (R206). -/
def Instr.ldax : IndexPair → Instr
  | .bc => .ldaxB | .de => .ldaxD

/-- STAX rp (R207). -/
def Instr.stax : IndexPair → Instr
  | .bc => .staxB | .de => .staxD

/-- INR r (R230). -/
def Instr.inr : Reg → Instr
  | .b => .inrB | .c => .inrC | .d => .inrD | .e => .inrE | .h => .inrH | .l => .inrL | .a => .inrA

/-- DCR r (R232). -/
def Instr.dcr : Reg → Instr
  | .b => .dcrB | .c => .dcrC | .d => .dcrD | .e => .dcrE | .h => .dcrH | .l => .dcrL | .a => .dcrA

/-- Jcc a16 (R252 to R260). -/
def Instr.jcc : Cond → Word → Instr
  | .nz, a16 => .jnz a16 | .z, a16 => .jz a16 | .nc, a16 => .jnc a16 | .c, a16 => .jc a16 | .po, a16 => .jpo a16
  | .pe, a16 => .jpe a16 | .p, a16 => .jp a16 | .m, a16 => .jm a16

/-- Ccc a16 (R262 to R270). -/
def Instr.ccc : Cond → Word → Instr
  | .nz, a16 => .cnz a16 | .z, a16 => .cz a16 | .nc, a16 => .cnc a16 | .c, a16 => .cc a16 | .po, a16 => .cpo a16
  | .pe, a16 => .cpe a16 | .p, a16 => .cp a16 | .m, a16 => .cm a16

/-- Rcc (R272 to R280). -/
def Instr.rcc : Cond → Instr
  | .nz => .rnz | .z => .rz | .nc => .rnc | .c => .rc | .po => .rpo | .pe => .rpe | .p => .rp | .m => .rm

/-- RST n (R281). -/
def Instr.rst : Fin 8 → Instr
  | 0 => .rst0 | 1 => .rst1 | 2 => .rst2 | 3 => .rst3 | 4 => .rst4 | 5 => .rst5 | 6 => .rst6 | 7 => .rst7

/-- PUSH rp (R300). -/
def Instr.push : Pair → Instr
  | .bc => .pushB | .de => .pushD | .hl => .pushH

/-- POP rp (R302). -/
def Instr.pop : Pair → Instr
  | .bc => .popB | .de => .popD | .hl => .popH

end Sys2Proof
end

