-- ==== Sys2Proof/WellFormed.lean ====
section
/-! DEFINITION. Which terms of Instr are instructions of the hardware. Every operand field of an instruction takes every
value of its type (spec/30_encoding.md R73, R74, R75); only the opcode byte of `invalid` is limited (R78). -/

namespace Sys2Proof

/-- The 12 values that have no entry in the instruction set (R78, UNDOC_POLICY = invalid). -/
def invalidOpcodes : List Byte :=
  [0x08, 0x10, 0x18, 0x20, 0x28, 0x30, 0x38, 0xCB, 0xD9, 0xDD, 0xED, 0xFD]

/-- `op` is one of the 12 values of R78. -/
def isInvalidOpcode (op : Byte) : Bool := invalidOpcodes.contains op

/-- The check of an instruction: `invalid` carries one of the 12 values, every other constructor is well formed. -/
def Instr.wellFormed : Instr → Bool
  | .invalid op => isInvalidOpcode op
  | .lxiB _ | .mviB _ | .mviC _ | .lxiD _ | .mviD _ | .mviE _ | .lxiH _ | .shld _ | .mviH _ | .lhld _ | .mviL _
  | .lxiSp _ | .sta _ | .mviM _ | .lda _ | .mviA _ | .jnz _ | .jmp _ | .cnz _ | .adi _ | .jz _ | .cz _
  | .call _ | .aci _ | .jnc _ | .outPort _ | .cnc _ | .sui _ | .jc _ | .inPort _ | .cc _ | .sbi _ | .jpo _
  | .cpo _ | .ani _ | .jpe _ | .cpe _ | .xri _ | .jp _ | .cp _ | .ori _ | .jm _ | .cm _ | .cpi _ => true
  | .nop | .staxB | .inxB | .inrB | .dcrB | .rlc | .dadB | .ldaxB | .dcxB | .inrC | .dcrC | .rrc | .staxD
  | .inxD | .inrD | .dcrD | .ral | .dadD | .ldaxD | .dcxD | .inrE | .dcrE | .rar | .inxH | .inrH | .dcrH | .daa
  | .dadH | .dcxH | .inrL | .dcrL | .cma | .inxSp | .inrM | .dcrM | .stc | .dadSp | .dcxSp | .inrA | .dcrA
  | .cmc | .movBB | .movBC | .movBD | .movBE | .movBH | .movBL | .movBM | .movBA | .movCB | .movCC | .movCD
  | .movCE | .movCH | .movCL | .movCM | .movCA | .movDB | .movDC | .movDD | .movDE | .movDH | .movDL | .movDM
  | .movDA | .movEB | .movEC | .movED | .movEE | .movEH | .movEL | .movEM | .movEA | .movHB | .movHC | .movHD
  | .movHE | .movHH | .movHL | .movHM | .movHA | .movLB | .movLC | .movLD | .movLE | .movLH | .movLL | .movLM
  | .movLA | .movMB | .movMC | .movMD | .movME | .movMH | .movML | .hlt | .movMA | .movAB | .movAC | .movAD
  | .movAE | .movAH | .movAL | .movAM | .movAA | .addB | .addC | .addD | .addE | .addH | .addL | .addM | .addA
  | .adcB | .adcC | .adcD | .adcE | .adcH | .adcL | .adcM | .adcA | .subB | .subC | .subD | .subE | .subH
  | .subL | .subM | .subA | .sbbB | .sbbC | .sbbD | .sbbE | .sbbH | .sbbL | .sbbM | .sbbA | .anaB | .anaC
  | .anaD | .anaE | .anaH | .anaL | .anaM | .anaA | .xraB | .xraC | .xraD | .xraE | .xraH | .xraL | .xraM
  | .xraA | .oraB | .oraC | .oraD | .oraE | .oraH | .oraL | .oraM | .oraA | .cmpB | .cmpC | .cmpD | .cmpE
  | .cmpH | .cmpL | .cmpM | .cmpA | .rnz | .popB | .pushB | .rst0 | .rz | .ret | .rst1 | .rnc | .popD | .pushD
  | .rst2 | .rc | .rst3 | .rpo | .popH | .xthl | .pushH | .rst4 | .rpe | .pchl | .xchg | .rst5 | .rp | .popPsw
  | .di | .pushPsw | .rst6 | .rm | .sphl | .ei | .rst7 => true

end Sys2Proof
end

