-- ==== Sys2Proof/Decode.lean ====
section
/-! DEFINITION. The opcode ROM, the decoder and, after it, the encoder (spec/30_encoding.md R70 to R80). The decoder reads
the opcode map of R77; the encoder is written from the bit fields of R72 and the encoding lines of the instruction rules,
so that their round trip compares the two. Also the byte-order helpers both use. -/

namespace Sys2Proof

/-! ### Bytes of a 16-bit value (R6, R23, R24) -/

/-- `hi ++ lo` (R6). -/
def word16 (hi lo : Byte) : Word := hi ++ lo

/-- v[15:8] -/
def hiByte (v : Word) : Byte := v.extractLsb' 8 8

/-- v[7:0] -/
def loByte (v : Word) : Byte := v.extractLsb' 0 8

/-- One entry of the opcode ROM (R80): the mnemonic for display, the byte length, the base cycle cost (BASE_CYCLES at its
default of R377, log 6), and the instruction it is with the bytes 2 and 3 as fetched (R73, R74). -/
structure RomEntry where
  mnemonic : String
  len : Nat
  base : Nat
  make : Byte → Byte → Instr

/-! ### The opcode ROM (R80, R77): row = high hex digit, column = low hex digit -/

/-- Opcodes 0x00 to 0x0F (R77, R377). -/
def romRow0 : List (Option RomEntry) := [
  some ⟨"NOP", 1, 4, fun _ _ => .nop⟩,
  some ⟨"LXI B,d16", 3, 10, fun b2 b3 => .lxiB (word16 b3 b2)⟩,
  some ⟨"STAX B", 1, 7, fun _ _ => .staxB⟩,
  some ⟨"INX B", 1, 5, fun _ _ => .inxB⟩,
  some ⟨"INR B", 1, 5, fun _ _ => .inrB⟩,
  some ⟨"DCR B", 1, 5, fun _ _ => .dcrB⟩,
  some ⟨"MVI B,d8", 2, 7, fun b2 _ => .mviB b2⟩,
  some ⟨"RLC", 1, 4, fun _ _ => .rlc⟩,
  none,
  some ⟨"DAD B", 1, 10, fun _ _ => .dadB⟩,
  some ⟨"LDAX B", 1, 7, fun _ _ => .ldaxB⟩,
  some ⟨"DCX B", 1, 5, fun _ _ => .dcxB⟩,
  some ⟨"INR C", 1, 5, fun _ _ => .inrC⟩,
  some ⟨"DCR C", 1, 5, fun _ _ => .dcrC⟩,
  some ⟨"MVI C,d8", 2, 7, fun b2 _ => .mviC b2⟩,
  some ⟨"RRC", 1, 4, fun _ _ => .rrc⟩]

/-- Opcodes 0x10 to 0x1F (R77, R377). -/
def romRow1 : List (Option RomEntry) := [
  none,
  some ⟨"LXI D,d16", 3, 10, fun b2 b3 => .lxiD (word16 b3 b2)⟩,
  some ⟨"STAX D", 1, 7, fun _ _ => .staxD⟩,
  some ⟨"INX D", 1, 5, fun _ _ => .inxD⟩,
  some ⟨"INR D", 1, 5, fun _ _ => .inrD⟩,
  some ⟨"DCR D", 1, 5, fun _ _ => .dcrD⟩,
  some ⟨"MVI D,d8", 2, 7, fun b2 _ => .mviD b2⟩,
  some ⟨"RAL", 1, 4, fun _ _ => .ral⟩,
  none,
  some ⟨"DAD D", 1, 10, fun _ _ => .dadD⟩,
  some ⟨"LDAX D", 1, 7, fun _ _ => .ldaxD⟩,
  some ⟨"DCX D", 1, 5, fun _ _ => .dcxD⟩,
  some ⟨"INR E", 1, 5, fun _ _ => .inrE⟩,
  some ⟨"DCR E", 1, 5, fun _ _ => .dcrE⟩,
  some ⟨"MVI E,d8", 2, 7, fun b2 _ => .mviE b2⟩,
  some ⟨"RAR", 1, 4, fun _ _ => .rar⟩]

/-- Opcodes 0x20 to 0x2F (R77, R377). -/
def romRow2 : List (Option RomEntry) := [
  none,
  some ⟨"LXI H,d16", 3, 10, fun b2 b3 => .lxiH (word16 b3 b2)⟩,
  some ⟨"SHLD a16", 3, 16, fun b2 b3 => .shld (word16 b3 b2)⟩,
  some ⟨"INX H", 1, 5, fun _ _ => .inxH⟩,
  some ⟨"INR H", 1, 5, fun _ _ => .inrH⟩,
  some ⟨"DCR H", 1, 5, fun _ _ => .dcrH⟩,
  some ⟨"MVI H,d8", 2, 7, fun b2 _ => .mviH b2⟩,
  some ⟨"DAA", 1, 4, fun _ _ => .daa⟩,
  none,
  some ⟨"DAD H", 1, 10, fun _ _ => .dadH⟩,
  some ⟨"LHLD a16", 3, 16, fun b2 b3 => .lhld (word16 b3 b2)⟩,
  some ⟨"DCX H", 1, 5, fun _ _ => .dcxH⟩,
  some ⟨"INR L", 1, 5, fun _ _ => .inrL⟩,
  some ⟨"DCR L", 1, 5, fun _ _ => .dcrL⟩,
  some ⟨"MVI L,d8", 2, 7, fun b2 _ => .mviL b2⟩,
  some ⟨"CMA", 1, 4, fun _ _ => .cma⟩]

/-- Opcodes 0x30 to 0x3F (R77, R377). -/
def romRow3 : List (Option RomEntry) := [
  none,
  some ⟨"LXI SP,d16", 3, 10, fun b2 b3 => .lxiSp (word16 b3 b2)⟩,
  some ⟨"STA a16", 3, 13, fun b2 b3 => .sta (word16 b3 b2)⟩,
  some ⟨"INX SP", 1, 5, fun _ _ => .inxSp⟩,
  some ⟨"INR M", 1, 10, fun _ _ => .inrM⟩,
  some ⟨"DCR M", 1, 10, fun _ _ => .dcrM⟩,
  some ⟨"MVI M,d8", 2, 10, fun b2 _ => .mviM b2⟩,
  some ⟨"STC", 1, 4, fun _ _ => .stc⟩,
  none,
  some ⟨"DAD SP", 1, 10, fun _ _ => .dadSp⟩,
  some ⟨"LDA a16", 3, 13, fun b2 b3 => .lda (word16 b3 b2)⟩,
  some ⟨"DCX SP", 1, 5, fun _ _ => .dcxSp⟩,
  some ⟨"INR A", 1, 5, fun _ _ => .inrA⟩,
  some ⟨"DCR A", 1, 5, fun _ _ => .dcrA⟩,
  some ⟨"MVI A,d8", 2, 7, fun b2 _ => .mviA b2⟩,
  some ⟨"CMC", 1, 4, fun _ _ => .cmc⟩]

/-- Opcodes 0x40 to 0x4F (R77, R377). -/
def romRow4 : List (Option RomEntry) := [
  some ⟨"MOV B,B", 1, 5, fun _ _ => .movBB⟩,
  some ⟨"MOV B,C", 1, 5, fun _ _ => .movBC⟩,
  some ⟨"MOV B,D", 1, 5, fun _ _ => .movBD⟩,
  some ⟨"MOV B,E", 1, 5, fun _ _ => .movBE⟩,
  some ⟨"MOV B,H", 1, 5, fun _ _ => .movBH⟩,
  some ⟨"MOV B,L", 1, 5, fun _ _ => .movBL⟩,
  some ⟨"MOV B,M", 1, 7, fun _ _ => .movBM⟩,
  some ⟨"MOV B,A", 1, 5, fun _ _ => .movBA⟩,
  some ⟨"MOV C,B", 1, 5, fun _ _ => .movCB⟩,
  some ⟨"MOV C,C", 1, 5, fun _ _ => .movCC⟩,
  some ⟨"MOV C,D", 1, 5, fun _ _ => .movCD⟩,
  some ⟨"MOV C,E", 1, 5, fun _ _ => .movCE⟩,
  some ⟨"MOV C,H", 1, 5, fun _ _ => .movCH⟩,
  some ⟨"MOV C,L", 1, 5, fun _ _ => .movCL⟩,
  some ⟨"MOV C,M", 1, 7, fun _ _ => .movCM⟩,
  some ⟨"MOV C,A", 1, 5, fun _ _ => .movCA⟩]

/-- Opcodes 0x50 to 0x5F (R77, R377). -/
def romRow5 : List (Option RomEntry) := [
  some ⟨"MOV D,B", 1, 5, fun _ _ => .movDB⟩,
  some ⟨"MOV D,C", 1, 5, fun _ _ => .movDC⟩,
  some ⟨"MOV D,D", 1, 5, fun _ _ => .movDD⟩,
  some ⟨"MOV D,E", 1, 5, fun _ _ => .movDE⟩,
  some ⟨"MOV D,H", 1, 5, fun _ _ => .movDH⟩,
  some ⟨"MOV D,L", 1, 5, fun _ _ => .movDL⟩,
  some ⟨"MOV D,M", 1, 7, fun _ _ => .movDM⟩,
  some ⟨"MOV D,A", 1, 5, fun _ _ => .movDA⟩,
  some ⟨"MOV E,B", 1, 5, fun _ _ => .movEB⟩,
  some ⟨"MOV E,C", 1, 5, fun _ _ => .movEC⟩,
  some ⟨"MOV E,D", 1, 5, fun _ _ => .movED⟩,
  some ⟨"MOV E,E", 1, 5, fun _ _ => .movEE⟩,
  some ⟨"MOV E,H", 1, 5, fun _ _ => .movEH⟩,
  some ⟨"MOV E,L", 1, 5, fun _ _ => .movEL⟩,
  some ⟨"MOV E,M", 1, 7, fun _ _ => .movEM⟩,
  some ⟨"MOV E,A", 1, 5, fun _ _ => .movEA⟩]

/-- Opcodes 0x60 to 0x6F (R77, R377). -/
def romRow6 : List (Option RomEntry) := [
  some ⟨"MOV H,B", 1, 5, fun _ _ => .movHB⟩,
  some ⟨"MOV H,C", 1, 5, fun _ _ => .movHC⟩,
  some ⟨"MOV H,D", 1, 5, fun _ _ => .movHD⟩,
  some ⟨"MOV H,E", 1, 5, fun _ _ => .movHE⟩,
  some ⟨"MOV H,H", 1, 5, fun _ _ => .movHH⟩,
  some ⟨"MOV H,L", 1, 5, fun _ _ => .movHL⟩,
  some ⟨"MOV H,M", 1, 7, fun _ _ => .movHM⟩,
  some ⟨"MOV H,A", 1, 5, fun _ _ => .movHA⟩,
  some ⟨"MOV L,B", 1, 5, fun _ _ => .movLB⟩,
  some ⟨"MOV L,C", 1, 5, fun _ _ => .movLC⟩,
  some ⟨"MOV L,D", 1, 5, fun _ _ => .movLD⟩,
  some ⟨"MOV L,E", 1, 5, fun _ _ => .movLE⟩,
  some ⟨"MOV L,H", 1, 5, fun _ _ => .movLH⟩,
  some ⟨"MOV L,L", 1, 5, fun _ _ => .movLL⟩,
  some ⟨"MOV L,M", 1, 7, fun _ _ => .movLM⟩,
  some ⟨"MOV L,A", 1, 5, fun _ _ => .movLA⟩]

/-- Opcodes 0x70 to 0x7F (R77, R377). -/
def romRow7 : List (Option RomEntry) := [
  some ⟨"MOV M,B", 1, 7, fun _ _ => .movMB⟩,
  some ⟨"MOV M,C", 1, 7, fun _ _ => .movMC⟩,
  some ⟨"MOV M,D", 1, 7, fun _ _ => .movMD⟩,
  some ⟨"MOV M,E", 1, 7, fun _ _ => .movME⟩,
  some ⟨"MOV M,H", 1, 7, fun _ _ => .movMH⟩,
  some ⟨"MOV M,L", 1, 7, fun _ _ => .movML⟩,
  some ⟨"HLT", 1, 7, fun _ _ => .hlt⟩,
  some ⟨"MOV M,A", 1, 7, fun _ _ => .movMA⟩,
  some ⟨"MOV A,B", 1, 5, fun _ _ => .movAB⟩,
  some ⟨"MOV A,C", 1, 5, fun _ _ => .movAC⟩,
  some ⟨"MOV A,D", 1, 5, fun _ _ => .movAD⟩,
  some ⟨"MOV A,E", 1, 5, fun _ _ => .movAE⟩,
  some ⟨"MOV A,H", 1, 5, fun _ _ => .movAH⟩,
  some ⟨"MOV A,L", 1, 5, fun _ _ => .movAL⟩,
  some ⟨"MOV A,M", 1, 7, fun _ _ => .movAM⟩,
  some ⟨"MOV A,A", 1, 5, fun _ _ => .movAA⟩]

/-- Opcodes 0x80 to 0x8F (R77, R377). -/
def romRow8 : List (Option RomEntry) := [
  some ⟨"ADD B", 1, 4, fun _ _ => .addB⟩,
  some ⟨"ADD C", 1, 4, fun _ _ => .addC⟩,
  some ⟨"ADD D", 1, 4, fun _ _ => .addD⟩,
  some ⟨"ADD E", 1, 4, fun _ _ => .addE⟩,
  some ⟨"ADD H", 1, 4, fun _ _ => .addH⟩,
  some ⟨"ADD L", 1, 4, fun _ _ => .addL⟩,
  some ⟨"ADD M", 1, 7, fun _ _ => .addM⟩,
  some ⟨"ADD A", 1, 4, fun _ _ => .addA⟩,
  some ⟨"ADC B", 1, 4, fun _ _ => .adcB⟩,
  some ⟨"ADC C", 1, 4, fun _ _ => .adcC⟩,
  some ⟨"ADC D", 1, 4, fun _ _ => .adcD⟩,
  some ⟨"ADC E", 1, 4, fun _ _ => .adcE⟩,
  some ⟨"ADC H", 1, 4, fun _ _ => .adcH⟩,
  some ⟨"ADC L", 1, 4, fun _ _ => .adcL⟩,
  some ⟨"ADC M", 1, 7, fun _ _ => .adcM⟩,
  some ⟨"ADC A", 1, 4, fun _ _ => .adcA⟩]

/-- Opcodes 0x90 to 0x9F (R77, R377). -/
def romRow9 : List (Option RomEntry) := [
  some ⟨"SUB B", 1, 4, fun _ _ => .subB⟩,
  some ⟨"SUB C", 1, 4, fun _ _ => .subC⟩,
  some ⟨"SUB D", 1, 4, fun _ _ => .subD⟩,
  some ⟨"SUB E", 1, 4, fun _ _ => .subE⟩,
  some ⟨"SUB H", 1, 4, fun _ _ => .subH⟩,
  some ⟨"SUB L", 1, 4, fun _ _ => .subL⟩,
  some ⟨"SUB M", 1, 7, fun _ _ => .subM⟩,
  some ⟨"SUB A", 1, 4, fun _ _ => .subA⟩,
  some ⟨"SBB B", 1, 4, fun _ _ => .sbbB⟩,
  some ⟨"SBB C", 1, 4, fun _ _ => .sbbC⟩,
  some ⟨"SBB D", 1, 4, fun _ _ => .sbbD⟩,
  some ⟨"SBB E", 1, 4, fun _ _ => .sbbE⟩,
  some ⟨"SBB H", 1, 4, fun _ _ => .sbbH⟩,
  some ⟨"SBB L", 1, 4, fun _ _ => .sbbL⟩,
  some ⟨"SBB M", 1, 7, fun _ _ => .sbbM⟩,
  some ⟨"SBB A", 1, 4, fun _ _ => .sbbA⟩]

/-- Opcodes 0xA0 to 0xAF (R77, R377). -/
def romRowA : List (Option RomEntry) := [
  some ⟨"ANA B", 1, 4, fun _ _ => .anaB⟩,
  some ⟨"ANA C", 1, 4, fun _ _ => .anaC⟩,
  some ⟨"ANA D", 1, 4, fun _ _ => .anaD⟩,
  some ⟨"ANA E", 1, 4, fun _ _ => .anaE⟩,
  some ⟨"ANA H", 1, 4, fun _ _ => .anaH⟩,
  some ⟨"ANA L", 1, 4, fun _ _ => .anaL⟩,
  some ⟨"ANA M", 1, 7, fun _ _ => .anaM⟩,
  some ⟨"ANA A", 1, 4, fun _ _ => .anaA⟩,
  some ⟨"XRA B", 1, 4, fun _ _ => .xraB⟩,
  some ⟨"XRA C", 1, 4, fun _ _ => .xraC⟩,
  some ⟨"XRA D", 1, 4, fun _ _ => .xraD⟩,
  some ⟨"XRA E", 1, 4, fun _ _ => .xraE⟩,
  some ⟨"XRA H", 1, 4, fun _ _ => .xraH⟩,
  some ⟨"XRA L", 1, 4, fun _ _ => .xraL⟩,
  some ⟨"XRA M", 1, 7, fun _ _ => .xraM⟩,
  some ⟨"XRA A", 1, 4, fun _ _ => .xraA⟩]

/-- Opcodes 0xB0 to 0xBF (R77, R377). -/
def romRowB : List (Option RomEntry) := [
  some ⟨"ORA B", 1, 4, fun _ _ => .oraB⟩,
  some ⟨"ORA C", 1, 4, fun _ _ => .oraC⟩,
  some ⟨"ORA D", 1, 4, fun _ _ => .oraD⟩,
  some ⟨"ORA E", 1, 4, fun _ _ => .oraE⟩,
  some ⟨"ORA H", 1, 4, fun _ _ => .oraH⟩,
  some ⟨"ORA L", 1, 4, fun _ _ => .oraL⟩,
  some ⟨"ORA M", 1, 7, fun _ _ => .oraM⟩,
  some ⟨"ORA A", 1, 4, fun _ _ => .oraA⟩,
  some ⟨"CMP B", 1, 4, fun _ _ => .cmpB⟩,
  some ⟨"CMP C", 1, 4, fun _ _ => .cmpC⟩,
  some ⟨"CMP D", 1, 4, fun _ _ => .cmpD⟩,
  some ⟨"CMP E", 1, 4, fun _ _ => .cmpE⟩,
  some ⟨"CMP H", 1, 4, fun _ _ => .cmpH⟩,
  some ⟨"CMP L", 1, 4, fun _ _ => .cmpL⟩,
  some ⟨"CMP M", 1, 7, fun _ _ => .cmpM⟩,
  some ⟨"CMP A", 1, 4, fun _ _ => .cmpA⟩]

/-- Opcodes 0xC0 to 0xCF (R77, R377). -/
def romRowC : List (Option RomEntry) := [
  some ⟨"RNZ", 1, 5, fun _ _ => .rnz⟩,
  some ⟨"POP B", 1, 10, fun _ _ => .popB⟩,
  some ⟨"JNZ a16", 3, 10, fun b2 b3 => .jnz (word16 b3 b2)⟩,
  some ⟨"JMP a16", 3, 10, fun b2 b3 => .jmp (word16 b3 b2)⟩,
  some ⟨"CNZ a16", 3, 11, fun b2 b3 => .cnz (word16 b3 b2)⟩,
  some ⟨"PUSH B", 1, 11, fun _ _ => .pushB⟩,
  some ⟨"ADI d8", 2, 7, fun b2 _ => .adi b2⟩,
  some ⟨"RST 0", 1, 11, fun _ _ => .rst0⟩,
  some ⟨"RZ", 1, 5, fun _ _ => .rz⟩,
  some ⟨"RET", 1, 10, fun _ _ => .ret⟩,
  some ⟨"JZ a16", 3, 10, fun b2 b3 => .jz (word16 b3 b2)⟩,
  none,
  some ⟨"CZ a16", 3, 11, fun b2 b3 => .cz (word16 b3 b2)⟩,
  some ⟨"CALL a16", 3, 17, fun b2 b3 => .call (word16 b3 b2)⟩,
  some ⟨"ACI d8", 2, 7, fun b2 _ => .aci b2⟩,
  some ⟨"RST 1", 1, 11, fun _ _ => .rst1⟩]

/-- Opcodes 0xD0 to 0xDF (R77, R377). -/
def romRowD : List (Option RomEntry) := [
  some ⟨"RNC", 1, 5, fun _ _ => .rnc⟩,
  some ⟨"POP D", 1, 10, fun _ _ => .popD⟩,
  some ⟨"JNC a16", 3, 10, fun b2 b3 => .jnc (word16 b3 b2)⟩,
  some ⟨"OUT p8", 2, 10, fun b2 _ => .outPort b2⟩,
  some ⟨"CNC a16", 3, 11, fun b2 b3 => .cnc (word16 b3 b2)⟩,
  some ⟨"PUSH D", 1, 11, fun _ _ => .pushD⟩,
  some ⟨"SUI d8", 2, 7, fun b2 _ => .sui b2⟩,
  some ⟨"RST 2", 1, 11, fun _ _ => .rst2⟩,
  some ⟨"RC", 1, 5, fun _ _ => .rc⟩,
  none,
  some ⟨"JC a16", 3, 10, fun b2 b3 => .jc (word16 b3 b2)⟩,
  some ⟨"IN p8", 2, 10, fun b2 _ => .inPort b2⟩,
  some ⟨"CC a16", 3, 11, fun b2 b3 => .cc (word16 b3 b2)⟩,
  none,
  some ⟨"SBI d8", 2, 7, fun b2 _ => .sbi b2⟩,
  some ⟨"RST 3", 1, 11, fun _ _ => .rst3⟩]

/-- Opcodes 0xE0 to 0xEF (R77, R377). -/
def romRowE : List (Option RomEntry) := [
  some ⟨"RPO", 1, 5, fun _ _ => .rpo⟩,
  some ⟨"POP H", 1, 10, fun _ _ => .popH⟩,
  some ⟨"JPO a16", 3, 10, fun b2 b3 => .jpo (word16 b3 b2)⟩,
  some ⟨"XTHL", 1, 18, fun _ _ => .xthl⟩,
  some ⟨"CPO a16", 3, 11, fun b2 b3 => .cpo (word16 b3 b2)⟩,
  some ⟨"PUSH H", 1, 11, fun _ _ => .pushH⟩,
  some ⟨"ANI d8", 2, 7, fun b2 _ => .ani b2⟩,
  some ⟨"RST 4", 1, 11, fun _ _ => .rst4⟩,
  some ⟨"RPE", 1, 5, fun _ _ => .rpe⟩,
  some ⟨"PCHL", 1, 5, fun _ _ => .pchl⟩,
  some ⟨"JPE a16", 3, 10, fun b2 b3 => .jpe (word16 b3 b2)⟩,
  some ⟨"XCHG", 1, 4, fun _ _ => .xchg⟩,
  some ⟨"CPE a16", 3, 11, fun b2 b3 => .cpe (word16 b3 b2)⟩,
  none,
  some ⟨"XRI d8", 2, 7, fun b2 _ => .xri b2⟩,
  some ⟨"RST 5", 1, 11, fun _ _ => .rst5⟩]

/-- Opcodes 0xF0 to 0xFF (R77, R377). -/
def romRowF : List (Option RomEntry) := [
  some ⟨"RP", 1, 5, fun _ _ => .rp⟩,
  some ⟨"POP PSW", 1, 10, fun _ _ => .popPsw⟩,
  some ⟨"JP a16", 3, 10, fun b2 b3 => .jp (word16 b3 b2)⟩,
  some ⟨"DI", 1, 4, fun _ _ => .di⟩,
  some ⟨"CP a16", 3, 11, fun b2 b3 => .cp (word16 b3 b2)⟩,
  some ⟨"PUSH PSW", 1, 11, fun _ _ => .pushPsw⟩,
  some ⟨"ORI d8", 2, 7, fun b2 _ => .ori b2⟩,
  some ⟨"RST 6", 1, 11, fun _ _ => .rst6⟩,
  some ⟨"RM", 1, 5, fun _ _ => .rm⟩,
  some ⟨"SPHL", 1, 5, fun _ _ => .sphl⟩,
  some ⟨"JM a16", 3, 10, fun b2 b3 => .jm (word16 b3 b2)⟩,
  some ⟨"EI", 1, 4, fun _ _ => .ei⟩,
  some ⟨"CM a16", 3, 11, fun b2 b3 => .cm (word16 b3 b2)⟩,
  none,
  some ⟨"CPI d8", 2, 7, fun b2 _ => .cpi b2⟩,
  some ⟨"RST 7", 1, 11, fun _ _ => .rst7⟩]

/-- The 16 rows of the map. -/
def romRows : List (List (Option RomEntry)) :=
  [romRow0, romRow1, romRow2, romRow3, romRow4, romRow5, romRow6, romRow7] ++
  [romRow8, romRow9, romRowA, romRowB, romRowC, romRowD, romRowE, romRowF]

/-- The ROM entry of an opcode byte; none for the 12 invalid values (R78, R80). -/
def romEntry (op : Byte) : Option RomEntry :=
  match romRows[op.toNat / 16]? with
  | some row => (row[op.toNat % 16]?).join
  | none => none

/-- The byte length of an opcode (R70, R135). An invalid value has no length (R139): its one byte is all that is read. -/
def opLen (op : Byte) : Nat :=
  match romEntry op with
  | some e => e.len
  | none => 1

/-- BASE_CYCLES(op) (R138, R377); 0 for an invalid value (R139). -/
def baseCycles (op : Byte) : Nat :=
  match romEntry op with
  | some e => e.base
  | none => 0

/-- The display mnemonic of an opcode (R80, R81). -/
def mnemonic (op : Byte) : Option String := (romEntry op).map (·.mnemonic)

/-! ### The decoder (R79, R134) -/

/-- Decoding is a total function of the opcode byte (R79); b2 and b3 are the bytes after it, whether the instruction uses
them or not (R133). -/
def decodeOp (op b2 b3 : Byte) : Instr :=
  match romEntry op with
  | some e => e.make b2 b3
  | none => .invalid op

/-- Why a list of bytes is no instruction. -/
inductive DecodeError where
  /-- There is no opcode byte. -/
  | noBytes
  /-- The list ends before the operand bytes the opcode's length asks for. -/
  | truncated (op : Byte)
deriving DecidableEq, Repr

/-- The instruction at the head of a list of bytes, and the bytes after it. -/
def decode : List Byte → Except DecodeError (Instr × List Byte)
  | [] => .error .noBytes
  | op :: rest =>
    match opLen op, rest with
    | 1, rest => .ok (decodeOp op 0 0, rest)
    | 2, b2 :: rest => .ok (decodeOp op b2 0, rest)
    | 3, b2 :: b3 :: rest => .ok (decodeOp op b2 b3, rest)
    | _, _ => .error (.truncated op)

/-! ### The encoder, from the fields of R72 -/

/-- The 3-bit register code (R22). -/
def Reg.code : Reg → BitVec 3
  | .b => 0b000
  | .c => 0b001
  | .d => 0b010
  | .e => 0b011
  | .h => 0b100
  | .l => 0b101
  | .a => 0b111

/-- The 3-bit operand code (R22): M is 0b110. -/
def Operand.code : Operand → BitVec 3
  | .reg r => r.code
  | .m => 0b110

/-- The 2-bit pair code (R25). -/
def Pair.code : Pair → BitVec 2
  | .bc => 0b00
  | .de => 0b01
  | .hl => 0b10

/-- The 2-bit pair code of LXI, INX, DCX and DAD (R25). -/
def RegPair.code : RegPair → BitVec 2
  | .pair p => p.code
  | .sp => 0b11

/-- The 1-bit pair code of LDAX and STAX (R77). -/
def IndexPair.code : IndexPair → BitVec 1
  | .bc => 0b0
  | .de => 0b1

/-- The ALU operation code `aaa` (R72). -/
def AluOp.code : AluOp → BitVec 3
  | .add => 0b000
  | .adc => 0b001
  | .sub => 0b010
  | .sbb => 0b011
  | .ana => 0b100
  | .xra => 0b101
  | .ora => 0b110
  | .cmp => 0b111

/-- The condition code `ccc` (R250). -/
def Cond.code : Cond → BitVec 3
  | .nz => 0b000
  | .z => 0b001
  | .nc => 0b010
  | .c => 0b011
  | .po => 0b100
  | .pe => 0b101
  | .p => 0b110
  | .m => 0b111

/-- `01dddsss` (R150 to R152). -/
def opMov (d s : Operand) : Byte := 0b01#2 ++ d.code ++ s.code

/-- `10aaasss` (R160 to R167). -/
def opAlu (k : AluOp) (s : Operand) : Byte := 0b10#2 ++ k.code ++ s.code

/-- `11aaa110` (R168 to R175). -/
def opAluImm (k : AluOp) : Byte := 0b11#2 ++ k.code ++ 0b110#3

/-- `00ddd110` (R200, R201). -/
def opMvi (d : Operand) : Byte := 0b00#2 ++ d.code ++ 0b110#3

/-- `00rp0001` (R202). -/
def opLxi (p : RegPair) : Byte := 0b00#2 ++ p.code ++ 0b0001#4

/-- `00rp0011` (R203). -/
def opInx (p : RegPair) : Byte := 0b00#2 ++ p.code ++ 0b0011#4

/-- `00rp1011` (R204). -/
def opDcx (p : RegPair) : Byte := 0b00#2 ++ p.code ++ 0b1011#4

/-- `00rp1001` (R205). -/
def opDad (p : RegPair) : Byte := 0b00#2 ++ p.code ++ 0b1001#4

/-- `000r1010` (R206). -/
def opLdax (p : IndexPair) : Byte := 0b000#3 ++ p.code ++ 0b1010#4

/-- `000r0010` (R207). -/
def opStax (p : IndexPair) : Byte := 0b000#3 ++ p.code ++ 0b0010#4

/-- `00ddd100` (R230, R231). -/
def opInr (d : Operand) : Byte := 0b00#2 ++ d.code ++ 0b100#3

/-- `00ddd101` (R232, R233). -/
def opDcr (d : Operand) : Byte := 0b00#2 ++ d.code ++ 0b101#3

/-- `11ccc010` (R252). -/
def opJcc (k : Cond) : Byte := 0b11#2 ++ k.code ++ 0b010#3

/-- `11ccc100` (R262). -/
def opCcc (k : Cond) : Byte := 0b11#2 ++ k.code ++ 0b100#3

/-- `11ccc000` (R272). -/
def opRcc (k : Cond) : Byte := 0b11#2 ++ k.code ++ 0b000#3

/-- `11nnn111` (R281). -/
def opRst (n : Fin 8) : Byte := 0b11#2 ++ BitVec.ofNat 3 n.val ++ 0b111#3

/-- `11rp0101` (R300). -/
def opPush (p : Pair) : Byte := 0b11#2 ++ p.code ++ 0b0101#4

/-- `11rp0001` (R302). -/
def opPop (p : Pair) : Byte := 0b11#2 ++ p.code ++ 0b0001#4

/-- The opcode byte of an instruction: from its fields, or the single value its rule states. -/
def opcode : Instr → Byte
  | .nop => 0x00
  | .lxiB _ => opLxi (.pair .bc)
  | .staxB => opStax .bc
  | .inxB => opInx (.pair .bc)
  | .inrB => opInr (.reg .b)
  | .dcrB => opDcr (.reg .b)
  | .mviB _ => opMvi (.reg .b)
  | .rlc => 0x07
  | .invalid op => op
  | .dadB => opDad (.pair .bc)
  | .ldaxB => opLdax .bc
  | .dcxB => opDcx (.pair .bc)
  | .inrC => opInr (.reg .c)
  | .dcrC => opDcr (.reg .c)
  | .mviC _ => opMvi (.reg .c)
  | .rrc => 0x0F
  | .lxiD _ => opLxi (.pair .de)
  | .staxD => opStax .de
  | .inxD => opInx (.pair .de)
  | .inrD => opInr (.reg .d)
  | .dcrD => opDcr (.reg .d)
  | .mviD _ => opMvi (.reg .d)
  | .ral => 0x17
  | .dadD => opDad (.pair .de)
  | .ldaxD => opLdax .de
  | .dcxD => opDcx (.pair .de)
  | .inrE => opInr (.reg .e)
  | .dcrE => opDcr (.reg .e)
  | .mviE _ => opMvi (.reg .e)
  | .rar => 0x1F
  | .lxiH _ => opLxi (.pair .hl)
  | .shld _ => 0x22
  | .inxH => opInx (.pair .hl)
  | .inrH => opInr (.reg .h)
  | .dcrH => opDcr (.reg .h)
  | .mviH _ => opMvi (.reg .h)
  | .daa => 0x27
  | .dadH => opDad (.pair .hl)
  | .lhld _ => 0x2A
  | .dcxH => opDcx (.pair .hl)
  | .inrL => opInr (.reg .l)
  | .dcrL => opDcr (.reg .l)
  | .mviL _ => opMvi (.reg .l)
  | .cma => 0x2F
  | .lxiSp _ => opLxi .sp
  | .sta _ => 0x32
  | .inxSp => opInx .sp
  | .inrM => opInr .m
  | .dcrM => opDcr .m
  | .mviM _ => opMvi .m
  | .stc => 0x37
  | .dadSp => opDad .sp
  | .lda _ => 0x3A
  | .dcxSp => opDcx .sp
  | .inrA => opInr (.reg .a)
  | .dcrA => opDcr (.reg .a)
  | .mviA _ => opMvi (.reg .a)
  | .cmc => 0x3F
  | .movBB => opMov (.reg .b) (.reg .b)
  | .movBC => opMov (.reg .b) (.reg .c)
  | .movBD => opMov (.reg .b) (.reg .d)
  | .movBE => opMov (.reg .b) (.reg .e)
  | .movBH => opMov (.reg .b) (.reg .h)
  | .movBL => opMov (.reg .b) (.reg .l)
  | .movBM => opMov (.reg .b) .m
  | .movBA => opMov (.reg .b) (.reg .a)
  | .movCB => opMov (.reg .c) (.reg .b)
  | .movCC => opMov (.reg .c) (.reg .c)
  | .movCD => opMov (.reg .c) (.reg .d)
  | .movCE => opMov (.reg .c) (.reg .e)
  | .movCH => opMov (.reg .c) (.reg .h)
  | .movCL => opMov (.reg .c) (.reg .l)
  | .movCM => opMov (.reg .c) .m
  | .movCA => opMov (.reg .c) (.reg .a)
  | .movDB => opMov (.reg .d) (.reg .b)
  | .movDC => opMov (.reg .d) (.reg .c)
  | .movDD => opMov (.reg .d) (.reg .d)
  | .movDE => opMov (.reg .d) (.reg .e)
  | .movDH => opMov (.reg .d) (.reg .h)
  | .movDL => opMov (.reg .d) (.reg .l)
  | .movDM => opMov (.reg .d) .m
  | .movDA => opMov (.reg .d) (.reg .a)
  | .movEB => opMov (.reg .e) (.reg .b)
  | .movEC => opMov (.reg .e) (.reg .c)
  | .movED => opMov (.reg .e) (.reg .d)
  | .movEE => opMov (.reg .e) (.reg .e)
  | .movEH => opMov (.reg .e) (.reg .h)
  | .movEL => opMov (.reg .e) (.reg .l)
  | .movEM => opMov (.reg .e) .m
  | .movEA => opMov (.reg .e) (.reg .a)
  | .movHB => opMov (.reg .h) (.reg .b)
  | .movHC => opMov (.reg .h) (.reg .c)
  | .movHD => opMov (.reg .h) (.reg .d)
  | .movHE => opMov (.reg .h) (.reg .e)
  | .movHH => opMov (.reg .h) (.reg .h)
  | .movHL => opMov (.reg .h) (.reg .l)
  | .movHM => opMov (.reg .h) .m
  | .movHA => opMov (.reg .h) (.reg .a)
  | .movLB => opMov (.reg .l) (.reg .b)
  | .movLC => opMov (.reg .l) (.reg .c)
  | .movLD => opMov (.reg .l) (.reg .d)
  | .movLE => opMov (.reg .l) (.reg .e)
  | .movLH => opMov (.reg .l) (.reg .h)
  | .movLL => opMov (.reg .l) (.reg .l)
  | .movLM => opMov (.reg .l) .m
  | .movLA => opMov (.reg .l) (.reg .a)
  | .movMB => opMov .m (.reg .b)
  | .movMC => opMov .m (.reg .c)
  | .movMD => opMov .m (.reg .d)
  | .movME => opMov .m (.reg .e)
  | .movMH => opMov .m (.reg .h)
  | .movML => opMov .m (.reg .l)
  | .hlt => 0x76
  | .movMA => opMov .m (.reg .a)
  | .movAB => opMov (.reg .a) (.reg .b)
  | .movAC => opMov (.reg .a) (.reg .c)
  | .movAD => opMov (.reg .a) (.reg .d)
  | .movAE => opMov (.reg .a) (.reg .e)
  | .movAH => opMov (.reg .a) (.reg .h)
  | .movAL => opMov (.reg .a) (.reg .l)
  | .movAM => opMov (.reg .a) .m
  | .movAA => opMov (.reg .a) (.reg .a)
  | .addB => opAlu .add (.reg .b)
  | .addC => opAlu .add (.reg .c)
  | .addD => opAlu .add (.reg .d)
  | .addE => opAlu .add (.reg .e)
  | .addH => opAlu .add (.reg .h)
  | .addL => opAlu .add (.reg .l)
  | .addM => opAlu .add .m
  | .addA => opAlu .add (.reg .a)
  | .adcB => opAlu .adc (.reg .b)
  | .adcC => opAlu .adc (.reg .c)
  | .adcD => opAlu .adc (.reg .d)
  | .adcE => opAlu .adc (.reg .e)
  | .adcH => opAlu .adc (.reg .h)
  | .adcL => opAlu .adc (.reg .l)
  | .adcM => opAlu .adc .m
  | .adcA => opAlu .adc (.reg .a)
  | .subB => opAlu .sub (.reg .b)
  | .subC => opAlu .sub (.reg .c)
  | .subD => opAlu .sub (.reg .d)
  | .subE => opAlu .sub (.reg .e)
  | .subH => opAlu .sub (.reg .h)
  | .subL => opAlu .sub (.reg .l)
  | .subM => opAlu .sub .m
  | .subA => opAlu .sub (.reg .a)
  | .sbbB => opAlu .sbb (.reg .b)
  | .sbbC => opAlu .sbb (.reg .c)
  | .sbbD => opAlu .sbb (.reg .d)
  | .sbbE => opAlu .sbb (.reg .e)
  | .sbbH => opAlu .sbb (.reg .h)
  | .sbbL => opAlu .sbb (.reg .l)
  | .sbbM => opAlu .sbb .m
  | .sbbA => opAlu .sbb (.reg .a)
  | .anaB => opAlu .ana (.reg .b)
  | .anaC => opAlu .ana (.reg .c)
  | .anaD => opAlu .ana (.reg .d)
  | .anaE => opAlu .ana (.reg .e)
  | .anaH => opAlu .ana (.reg .h)
  | .anaL => opAlu .ana (.reg .l)
  | .anaM => opAlu .ana .m
  | .anaA => opAlu .ana (.reg .a)
  | .xraB => opAlu .xra (.reg .b)
  | .xraC => opAlu .xra (.reg .c)
  | .xraD => opAlu .xra (.reg .d)
  | .xraE => opAlu .xra (.reg .e)
  | .xraH => opAlu .xra (.reg .h)
  | .xraL => opAlu .xra (.reg .l)
  | .xraM => opAlu .xra .m
  | .xraA => opAlu .xra (.reg .a)
  | .oraB => opAlu .ora (.reg .b)
  | .oraC => opAlu .ora (.reg .c)
  | .oraD => opAlu .ora (.reg .d)
  | .oraE => opAlu .ora (.reg .e)
  | .oraH => opAlu .ora (.reg .h)
  | .oraL => opAlu .ora (.reg .l)
  | .oraM => opAlu .ora .m
  | .oraA => opAlu .ora (.reg .a)
  | .cmpB => opAlu .cmp (.reg .b)
  | .cmpC => opAlu .cmp (.reg .c)
  | .cmpD => opAlu .cmp (.reg .d)
  | .cmpE => opAlu .cmp (.reg .e)
  | .cmpH => opAlu .cmp (.reg .h)
  | .cmpL => opAlu .cmp (.reg .l)
  | .cmpM => opAlu .cmp .m
  | .cmpA => opAlu .cmp (.reg .a)
  | .rnz => opRcc .nz
  | .popB => opPop .bc
  | .jnz _ => opJcc .nz
  | .jmp _ => 0xC3
  | .cnz _ => opCcc .nz
  | .pushB => opPush .bc
  | .adi _ => opAluImm .add
  | .rst0 => opRst 0
  | .rz => opRcc .z
  | .ret => 0xC9
  | .jz _ => opJcc .z
  | .cz _ => opCcc .z
  | .call _ => 0xCD
  | .aci _ => opAluImm .adc
  | .rst1 => opRst 1
  | .rnc => opRcc .nc
  | .popD => opPop .de
  | .jnc _ => opJcc .nc
  | .outPort _ => 0xD3
  | .cnc _ => opCcc .nc
  | .pushD => opPush .de
  | .sui _ => opAluImm .sub
  | .rst2 => opRst 2
  | .rc => opRcc .c
  | .jc _ => opJcc .c
  | .inPort _ => 0xDB
  | .cc _ => opCcc .c
  | .sbi _ => opAluImm .sbb
  | .rst3 => opRst 3
  | .rpo => opRcc .po
  | .popH => opPop .hl
  | .jpo _ => opJcc .po
  | .xthl => 0xE3
  | .cpo _ => opCcc .po
  | .pushH => opPush .hl
  | .ani _ => opAluImm .ana
  | .rst4 => opRst 4
  | .rpe => opRcc .pe
  | .pchl => 0xE9
  | .jpe _ => opJcc .pe
  | .xchg => 0xEB
  | .cpe _ => opCcc .pe
  | .xri _ => opAluImm .xra
  | .rst5 => opRst 5
  | .rp => opRcc .p
  | .popPsw => 0xF1
  | .jp _ => opJcc .p
  | .di => 0xF3
  | .cp _ => opCcc .p
  | .pushPsw => 0xF5
  | .ori _ => opAluImm .ora
  | .rst6 => opRst 6
  | .rm => opRcc .m
  | .sphl => 0xF9
  | .jm _ => opJcc .m
  | .ei => 0xFB
  | .cm _ => opCcc .m
  | .cpi _ => opAluImm .cmp
  | .rst7 => opRst 7

/-- The operand bytes (R71, R73, R74): d8 or p8, or the low then the high byte of d16 or a16. -/
def operandBytes : Instr → List Byte
  | .mviB d8 | .mviC d8 | .mviD d8 | .mviE d8 | .mviH d8 | .mviL d8 | .mviM d8 | .mviA d8 | .adi d8 | .aci d8
  | .outPort d8 | .sui d8 | .inPort d8 | .sbi d8 | .ani d8 | .xri d8 | .ori d8 | .cpi d8 => [d8]
  | .lxiB d16 | .lxiD d16 | .lxiH d16 | .shld d16 | .lhld d16 | .lxiSp d16 | .sta d16 | .lda d16 | .jnz d16
  | .jmp d16 | .cnz d16 | .jz d16 | .cz d16 | .call d16 | .jnc d16 | .cnc d16 | .jc d16 | .cc d16 | .jpo d16
  | .cpo d16 | .jpe d16 | .cpe d16 | .jp d16 | .cp d16 | .jm d16 | .cm d16 => [loByte d16, hiByte d16]
  | .invalid _ => []
  | .nop | .staxB | .inxB | .inrB | .dcrB | .rlc | .dadB | .ldaxB | .dcxB | .inrC | .dcrC | .rrc | .staxD
  | .inxD | .inrD | .dcrD | .ral | .dadD | .ldaxD | .dcxD | .inrE | .dcrE | .rar | .inxH | .inrH | .dcrH | .daa
  | .dadH | .dcxH | .inrL | .dcrL | .cma | .inxSp | .inrM | .dcrM | .stc | .dadSp | .dcxSp | .inrA | .dcrA
  | .cmc | .movBB | .movBC | .movBD | .movBE | .movBH | .movBL | .movBM | .movBA | .movCB | .movCC | .movCD
  | .movCE | .movCH | .movCL | .movCM | .movCA | .movDB | .movDC | .movDD | .movDE | .movDH | .movDL | .movDM
  | .movDA | .movEB | .movEC | .movED | .movEE | .movEH | .movEL | .movEM | .movEA | .movHB | .movHC | .movHD
  | .movHE | .movHH | .movHL | .movHM | .movHA | .movLB | .movLC | .movLD | .movLE | .movLH | .movLL | .movLM
  | .movLA | .movMB | .movMC | .movMD | .movME | .movMH | .movML | .hlt | .movMA | .movAB | .movAC | .movAD
  | .movAE | .movAH | .movAL | .movAM | .movAA | .addB | .addC | .addD | .addE | .addH | .addL | .addM | .addA
  | .adcB | .adcC | .adcD | .adcE | .adcH | .adcL | .adcM | .adcA | .subB | .subC | .subD | .subE | .subH
  | .subL | .subM | .subA | .sbbB | .sbbC | .sbbD | .sbbE | .sbbH | .sbbL | .sbbM | .sbbA | .anaB | .anaC
  | .anaD | .anaE | .anaH | .anaL | .anaM | .anaA | .xraB | .xraC | .xraD | .xraE | .xraH | .xraL | .xraM
  | .xraA | .oraB | .oraC | .oraD | .oraE | .oraH | .oraL | .oraM | .oraA | .cmpB | .cmpC | .cmpD | .cmpE
  | .cmpH | .cmpL | .cmpM | .cmpA | .rnz | .popB | .pushB | .rst0 | .rz | .ret | .rst1 | .rnc | .popD | .pushD
  | .rst2 | .rc | .rst3 | .rpo | .popH | .xthl | .pushH | .rst4 | .rpe | .pchl | .xchg | .rst5 | .rp | .popPsw
  | .di | .pushPsw | .rst6 | .rm | .sphl | .ei | .rst7 => []

/-- The bytes of an instruction, the opcode first (R70, R71). -/
def encode (i : Instr) : List Byte := opcode i :: operandBytes i

/-- The three bytes of a number whose bits are counted as spec/opcode_table.json counts them, the first byte in bits 7..0;
the bits from `nbits` on are 0. -/
def tableWordBytes (nbits w : Nat) : List Byte :=
  let v := w % 2 ^ nbits
  [BitVec.ofNat 8 v, BitVec.ofNat 8 (v / 256), BitVec.ofNat 8 (v / 65536)]

/-- What the decoder reads from such a number. -/
def decodeTableWord (nbits w : Nat) : Option Instr :=
  match decode (tableWordBytes nbits w) with
  | .ok (i, _) => some i
  | .error _ => none

end Sys2Proof
end

