-- ==== Sys2Proof/Config.lean ====
section
/-! DEFINITION. The parameters of spec/00_scope.md R5 that the source leaves unsettled, as opaque constants: no proof can
see their value, so a theorem about the machine holds for every setting. The settled parameters (UNDOC_POLICY,
RESERVED_FLAG_POLICY, the default BASE_CYCLES table) are built into Decode.lean and Machine/Flags.lean. -/

namespace Sys2Proof.Config

/-- The two candidate forms of the auxiliary carry of DCR (R5 DCR_AC_RULE, R110). -/
inductive DcrAcRule where
  | borrow
  | nonborrow
deriving DecidableEq, Repr, Inhabited

/-- The two readings of the third condition of DAA's high correction (R5 DAA_HIGH_TRIGGER, R108). -/
inductive DaaHighTrigger where
  | path
  | loGt9
deriving DecidableEq, Repr, Inhabited

/-- The two readings of DAA's new carry (R5 DAA_CARRY_RULE, R108). -/
inductive DaaCarryRule where
  | carryOut
  | sticky
deriving DecidableEq, Repr, Inhabited

/-- DCR_AC_RULE is OPEN in the spec (R110, D1): free between its two candidates. Safe: nothing can be proved that
names one of them. DESIGN CHOICE, log 4. -/
opaque dcrAcRule : DcrAcRule

/-- DAA_HIGH_TRIGGER (R108, D2): "a claim that depends on DAA at one of them must hold under both settings". Safe.
DESIGN CHOICE, log 5. -/
opaque daaHighTrigger : DaaHighTrigger

/-- DAA_CARRY_RULE (R108, D3), as `daaHighTrigger`. Safe. DESIGN CHOICE, log 5. -/
opaque daaCarryRule : DaaCarryRule

/-- PORT_IN (R5, R340, D11): the byte that the port interface answers to the n-th PortIn call, here for a given port.
A free draw for each call. DESIGN CHOICE, log 2. -/
opaque portIn : Nat → Byte → Byte

/-- The byte the host's store holds at an address that neither the launch names nor anything has written (R371, D19; "any
value", spec/93_implementation_defined.md). Free, and the same each time an address is read (R51). DESIGN CHOICE, log 1. -/
opaque initialByte : Word → Byte

end Sys2Proof.Config
end

