-- ==== Sys2Proof/Machine/State.lean ====
section
/-! DEFINITION. The state of the core (spec/10_state.md R20), the memory it shares with the host (spec/20_memory.md R50),
the outputs of its steps, the reasons a step can stop, and the reset state (R38). -/

namespace Sys2Proof.Machine

/-- The seven 8-bit data registers (R21). No register is hardwired. -/
structure Regs where
  a : Byte
  b : Byte
  c : Byte
  d : Byte
  e : Byte
  h : Byte
  l : Byte
deriving DecidableEq, Repr

/-- The five flags (R28). The fixed bit and the reserved bits of F are constants of the packing, not state (R20, R31). -/
structure Flags where
  cy : Bool
  ac : Bool
  z : Bool
  s : Bool
  p : Bool
deriving DecidableEq, Repr

/-- Memory (R50): the bytes listed by address, and what the launch says of every other address (R371). `Memory.wf` of
Machine/Ops.lean gives the form of the list, `Memory.read` and `Memory.write` there access it. -/
structure Memory where
  /-- Addresses strictly rising, none with the byte that `rest` names. -/
  cells : List Host.Cell
  /-- The byte at every address not listed, where the launch names one; none where it does not: then each such byte is
  free (`Config.initialByte`, log 1). -/
  rest : Option Byte
deriving DecidableEq, Repr

/-- One PortOut event: the port and the byte sent to it (R340). -/
structure PortWrite where
  port : Byte
  value : Byte
deriving DecidableEq, Repr

/-- The state. The fields up to `halted` are exactly the record of R20; memory is the host's, shared (R50); the last
three are outputs and the draw counter of the port interface, no state of the core. -/
structure State where
  regs : Regs
  /-- Stack pointer (R26). -/
  sp : Word
  /-- Program counter (R27): the address of the opcode byte of the next instruction. -/
  pc : Word
  flags : Flags
  /-- The interrupt-enable boolean INTE (R33). -/
  inte : Bool
  /-- The halted boolean HALTED (R34). -/
  halted : Bool
  mem : Memory
  /-- The cycle count the last step returned (R138), an output to the host (R36). -/
  cycles : Nat
  /-- How many PortIn draws have been taken: the model's own counter for the free value `Config.portIn` (log 2). -/
  portIn : Nat
  /-- The PortOut events so far, oldest first (R340). -/
  portOut : List PortWrite
deriving DecidableEq, Repr

/-- Why a step has no next state. -/
inductive Fault where
  /-- The core's only fault (R330), raised by the meaning of the 12 invalid opcodes (R139): the opcode and the PC it was
  fetched at. State and memory are as before the step and the cycle count is 0. As the spec says; safe for a program
  of the original that relies on an alias (D5). -/
  | invalidOpcode (op : Byte) (pc : Word)
  /-- A step asked of a core with HALTED = 1, raised by `step` before the fetch: the spec gives such a state no step
  (R131, D6). A stuck state, with no cycle count; safe. -/
  | halted
deriving DecidableEq, Repr

/-- Why an instruction has no meaning in the model. -/
inductive Refusal where
  /-- An instruction whose arm of `exec` has no meaning yet. Raised by no arm of this model; safe. -/
  | notModelled (mnemonic : String)
deriving DecidableEq, Repr

/-- What a meaning or a step answers. -/
abbrev Result := Host.Outcome State Fault Refusal

/-- The reset state (R38, R370). Reset gives memory no content (R371): no byte is listed or named, each is free (log 1); the outputs and the draw counter start empty (log 3). -/
def State.reset : State where
  regs := { a := 0, b := 0, c := 0, d := 0, e := 0, h := 0, l := 0 }
  sp := 0
  pc := 0
  flags := { cy := false, ac := false, z := false, s := false, p := false }
  inte := false
  halted := false
  mem := { cells := [], rest := none }
  cycles := 0
  portIn := 0
  portOut := []

end Sys2Proof.Machine
end

