-- ==== Sys2Proof/Machine/Ops.lean ====
section
/-! DEFINITION. The named operations over memory, stack, program counter, cycle count and ports (spec/20_memory.md,
spec/41_dispatcher.md, spec/60_exceptions.md), and the raising of the core's one fault. -/

namespace Sys2Proof.Machine

/-! ### Memory (R50 to R54) -/

/-- The byte listed for an address: the first entry for it, if there is one. -/
def Memory.find : List Host.Cell → Nat → Option Byte
  | [], _ => none
  | (k, v) :: tail, a => if k = a then some v else Memory.find tail a

/-- The list without any entry for an address. -/
def Memory.erase : List Host.Cell → Nat → List Host.Cell
  | [], _ => []
  | (k, v) :: tail, a => if k = a then Memory.erase tail a else (k, v) :: Memory.erase tail a

/-- The list with an entry put before the first one of a greater address. -/
def Memory.insert : List Host.Cell → Nat → Byte → List Host.Cell
  | [], a, v => [(a, v)]
  | (k, w) :: tail, a, v => if a < k then (a, v) :: (k, w) :: tail else (k, w) :: Memory.insert tail a v

/-- What the state says of the byte at an address: listed, or named for all the rest, or nothing. -/
def Memory.known (m : Memory) (a : Word) : Option Byte := (Memory.find m.cells a.toNat).or m.rest

/-- MemRead(addr, 1) on a memory (R51): every 16-bit address is a valid byte (R50). A byte that neither a write nor the
launch has named is what the host's store holds there, a free value (R371, D19, log 1). -/
def Memory.read (m : Memory) (a : Word) : Byte := (Memory.known m a).getD (Config.initialByte a)

/-- MemWrite(addr, 1, v) on a memory (R52). Writing the byte that `rest` names takes the entry out. -/
def Memory.write (m : Memory) (a : Word) (v : Byte) : Memory :=
  { m with cells := if m.rest = some v then Memory.erase m.cells a.toNat
                    else Memory.insert (Memory.erase m.cells a.toNat) a.toNat v }

/-- All listed addresses are greater than `a`. -/
def Memory.allAbove (a : Nat) (l : List Host.Cell) : Bool := l.all fun cell => decide (a < cell.1)

/-- Addresses of the 16-bit space, strictly rising, no entry with the byte that `rest` names. -/
def Memory.cellsWf (rest : Option Byte) : List Host.Cell → Bool
  | [] => true
  | (k, v) :: tail =>
    decide (k < 65536) && decide (rest ≠ some v) && Memory.allAbove k tail && Memory.cellsWf rest tail

/-- The canonical form of a memory (log 17). -/
def Memory.wf (m : Memory) : Bool := Memory.cellsWf m.rest m.cells

/-- MemRead(addr, 1) (R51): no side effect. -/
def memRead (s : State) (a : Word) : Byte := Memory.read s.mem a

/-- MemWrite(addr, 1, v) (R52): no other effect. -/
def memWrite (s : State) (a : Word) (v : Byte) : State := { s with mem := Memory.write s.mem a v }

/-- Read16(addr) (R54): little-endian, the address wrapping modulo 2^16 (R53). -/
def read16 (s : State) (a : Word) : Word := word16 (memRead s (a + 1)) (memRead s a)

/-- Write16(addr, v) (R54): the low byte at addr, then the high byte at addr + 1. -/
def write16 (s : State) (a : Word) (v : Word) : State := memWrite (memWrite s a (loByte v)) (a + 1) (hiByte v)

/-! ### Stack (R55, R56) -/

/-- Push16(v) (R55): the high byte at SP - 1, then the low byte at SP - 2. -/
def push16 (v : Word) (s : State) : State :=
  let s := { s with sp := s.sp - 1 }
  let s := memWrite s s.sp (hiByte v)
  let s := { s with sp := s.sp - 1 }
  memWrite s s.sp (loByte v)

/-- Pop16() (R56): the low byte at SP, then the high byte at SP + 1; the value and the state with SP moved. -/
def pop16 (s : State) : Word × State :=
  let lo := memRead s s.sp
  let s := { s with sp := s.sp + 1 }
  let hi := memRead s s.sp
  (word16 hi lo, { s with sp := s.sp + 1 })

/-! ### Program counter and cycle count (R136 to R138, R141) -/

/-- `next` (R136): the address after the instruction whose opcode is `op`, modulo 2^16. -/
def nextPc (op : Byte) (s : State) : Word := s.pc + BitVec.ofNat 16 (opLen op)

/-- The fixed penalty of a taken conditional jump, call or return (R138). -/
def takenPenalty : Nat := 6

/-- The end of a step that falls through (R136): PC <- next, and the base cycle count is returned (R138). -/
def fallThrough (op : Byte) (s : State) : Result := .next { s with pc := nextPc op s, cycles := baseCycles op }

/-- The end of a step that transfers control unconditionally (R137, R138). -/
def jumpTo (op : Byte) (target : Word) (s : State) : Result := .next { s with pc := target, cycles := baseCycles op }

/-- The end of a step whose conditional transfer is taken (R137): base cycle count plus the penalty (R138). -/
def jumpTaken (op : Byte) (target : Word) (s : State) : Result :=
  .next { s with pc := target, cycles := baseCycles op + takenPenalty }

/-! ### Ports (R340) -/

/-- PortIn(p): the free answer of this call, and the state with one more draw taken (log 2). -/
def portRead (p : Byte) (s : State) : Byte × State := (Config.portIn s.portIn p, { s with portIn := s.portIn + 1 })

/-- PortOut(p, v): an output event, recorded in order. -/
def portWrite (p v : Byte) (s : State) : State := { s with portOut := s.portOut ++ [{ port := p, value := v }] }

/-! ### The core's one fault (R139, R330, R331) -/

/-- `raise InvalidOpcode(op, pc)`: the step stops with the opcode and the PC it was fetched at. Nothing is written, no
control is transferred and nothing is saved (R331, R335). -/
def raiseInvalidOpcode (op : Byte) (s : State) : Result := .fault (.invalidOpcode op s.pc)

/-- The cycle count a step gives back to the host (R130, R138): 0 with InvalidOpcode (R139). None for a step asked of a
halted core: the spec defines no such step, so the model assumes no count for it (R131, D6, log 9); none for a refusal. -/
def returnedCycles : Result → Option Nat
  | .next t => some t.cycles
  | .fault (.invalidOpcode _ _) => some 0
  | .fault .halted => none
  | .refused _ => none

end Sys2Proof.Machine
end

