-- ==== Sys2Proof/Machine/Operands.lean ====
section
/-! DEFINITION. The operand forms (spec/10_state.md R21 to R26, spec/30_encoding.md R75): registers, the memory operand M
at HL, register pairs and SP. -/

namespace Sys2Proof.Machine

/-- The named register (R21). -/
def Regs.get (q : Regs) : Reg → Byte
  | .b => q.b
  | .c => q.c
  | .d => q.d
  | .e => q.e
  | .h => q.h
  | .l => q.l
  | .a => q.a

/-- The register file with one register written (R8 `x <- v`). -/
def Regs.set (q : Regs) (r : Reg) (v : Byte) : Regs :=
  match r with
  | .b => { q with b := v }
  | .c => { q with c := v }
  | .d => { q with d := v }
  | .e => { q with e := v }
  | .h => { q with h := v }
  | .l => { q with l := v }
  | .a => { q with a := v }

/-- A read of a data register. -/
def getReg (s : State) (r : Reg) : Byte := Regs.get s.regs r

/-- A write of a data register. -/
def setReg (s : State) (r : Reg) (v : Byte) : State := { s with regs := Regs.set s.regs r v }

/-- The high register of a pair (R23). -/
def Pair.hi : Pair → Reg
  | .bc => .b
  | .de => .d
  | .hl => .h

/-- The low register of a pair (R23). -/
def Pair.lo : Pair → Reg
  | .bc => .c
  | .de => .e
  | .hl => .l

/-- A register pair read as a 16-bit value, the first-named register high (R23). -/
def getPair (s : State) (q : Pair) : Word := word16 (getReg s (Pair.hi q)) (getReg s (Pair.lo q))

/-- `pair(p) <- v` (R24): the high byte to the high register, the low byte to the low register. -/
def setPair (s : State) (q : Pair) (v : Word) : State := setReg (setReg s (Pair.hi q) (hiByte v)) (Pair.lo q) (loByte v)

/-- HL, the address of the operand M (R22). -/
def hl (s : State) : Word := getPair s .hl

/-- `pair(p)` in the first column of R25: a register pair or SP. -/
def getRegPair (s : State) : RegPair → Word
  | .pair q => getPair s q
  | .sp => s.sp

/-- `pair(p) <- v` in the first column of R25. -/
def setRegPair (s : State) (q : RegPair) (v : Word) : State :=
  match q with
  | .pair q => setPair s q v
  | .sp => { s with sp := v }

/-- `reg[c]` (R22): a register, or for M the memory byte at HL. -/
def readOperand (s : State) : Operand → Byte
  | .reg r => getReg s r
  | .m => memRead s (hl s)

/-- `reg[c] <- v` (R22). -/
def writeOperand (s : State) (o : Operand) (v : Byte) : State :=
  match o with
  | .reg r => setReg s r v
  | .m => memWrite s (hl s) v

end Sys2Proof.Machine
end

