-- ==== Sys2Proof/Machine/Flags.lean ====
section
/-! DEFINITION. The flags byte (spec/10_state.md R29, R30, R32), the conditions (spec/46_control.md R250) and the ALU
helper operations (spec/40_flags_alu.md). A helper takes the flags it may leave alone and gives its result and the flags
after it. Sums and differences are computed in unbounded integers and narrowed at the end (R7, R112). -/

namespace Sys2Proof.Machine

/-! ### The flags byte -/

/-- PackF() (R29): S Z 0 AC 0 P 1 CY, bit 7 first. The reserved bits are 0 (RESERVED_FLAG_POLICY, D4) and the fixed bit
is 1. -/
def packF (f : Flags) : Byte :=
  BitVec.ofBool f.s ++ BitVec.ofBool f.z ++ 0#1 ++ BitVec.ofBool f.ac ++ 0#1 ++ BitVec.ofBool f.p ++ 1#1 ++
    BitVec.ofBool f.cy

/-- UnpackF(b) (R30): bits 5, 3 and 1 are discarded. -/
def unpackF (b : Byte) : Flags :=
  { s := b.getLsbD 7, z := b.getLsbD 6, ac := b.getLsbD 4, p := b.getLsbD 2, cy := b.getLsbD 0 }

/-- The PSW word (R32): A high, the flags byte low. -/
def psw (s : State) : Word := word16 s.regs.a (packF s.flags)

/-! ### Conditions -/

/-- Cond(ccc) (R250). -/
def Cond.holds (k : Cond) (f : Flags) : Bool :=
  match k with
  | .nz => !f.z
  | .z => f.z
  | .nc => !f.cy
  | .c => f.cy
  | .po => !f.p
  | .pe => f.p
  | .p => !f.s
  | .m => f.s

/-! ### Parts of a byte -/

/-- v[3:0] as an integer. -/
def loNibble (v : Byte) : Nat := v.toNat % 16

/-- v[7:4] as an integer. -/
def hiNibble (v : Byte) : Nat := v.toNat / 16

/-- The number of set bits of a byte. -/
def popcount (v : Byte) : Nat :=
  (v.getLsbD 0).toNat + (v.getLsbD 1).toNat + (v.getLsbD 2).toNat + (v.getLsbD 3).toNat +
    (v.getLsbD 4).toNat + (v.getLsbD 5).toNat + (v.getLsbD 6).toNat + (v.getLsbD 7).toNat

/-- Parity(v) (R100): true when the number of set bits is even. -/
def parity (v : Byte) : Bool := decide (popcount v % 2 = 0)

/-- SetZSP(v) (R101): writes Z, S and P only. -/
def setZSP (f : Flags) (v : Byte) : Flags := { f with z := decide (v = 0), s := v.getLsbD 7, p := parity v }

/-! ### Addition, subtraction, logic, compare (R102 to R107) -/

/-- AluAdd(x, y, cin) (R102); the carry-in takes part in the nibble sum (D24). -/
def aluAdd (f : Flags) (x y : Byte) (cin : Bool) : Byte × Flags :=
  let sum : Nat := x.toNat + y.toNat + cin.toNat
  let r := BitVec.ofNat 8 sum
  (r, setZSP { f with cy := decide (sum > 0xFF), ac := decide (loNibble x + loNibble y + cin.toNat > 0x0F) } r)

/-- AluSub(x, y, bin) (R103): CY and AC are borrows, AC not the complement the chip is said to have (C7); the borrow-in
takes part in the nibble difference (D24). -/
def aluSub (f : Flags) (x y : Byte) (bin : Bool) : Byte × Flags :=
  let diff : Int := (x.toNat : Int) - (y.toNat : Int) - (bin.toNat : Int)
  let nibbleDiff : Int := (loNibble x : Int) - (loNibble y : Int) - (bin.toNat : Int)
  let r := BitVec.ofInt 8 diff
  (r, setZSP { f with cy := decide (diff < 0), ac := decide (nibbleDiff < 0) } r)

/-- AluAnd(x, y) (R104): CY = 0, AC = bit 3 of (x OR y). -/
def aluAnd (f : Flags) (x y : Byte) : Byte × Flags :=
  let r := x &&& y
  (r, setZSP { f with cy := false, ac := (x ||| y).getLsbD 3 } r)

/-- AluXor(x, y) (R105): CY = AC = 0. -/
def aluXor (f : Flags) (x y : Byte) : Byte × Flags :=
  let r := x ^^^ y
  (r, setZSP { f with cy := false, ac := false } r)

/-- AluOr(x, y) (R106): CY = AC = 0. -/
def aluOr (f : Flags) (x y : Byte) : Byte × Flags :=
  let r := x ||| y
  (r, setZSP { f with cy := false, ac := false } r)

/-- AluCmp(x, y) (R107): the flags of a subtraction without borrow-in, the result discarded. -/
def aluCmp (f : Flags) (x y : Byte) : Flags := (aluSub f x y false).2

/-! ### Decimal adjust (R108) -/

/-- AluDaa() (R108) of an accumulator and the flags, for given readings of the two parameters. Both corrections are
decided from the original A, CY and AC. The third trigger of the high correction is lowpath (low nibble > 9 or AC) under
`path` and low nibble > 9 under `loGt9`; the incoming CY enters the new one under `sticky` only. -/
def aluDaa (trigger : Config.DaaHighTrigger) (rule : Config.DaaCarryRule) (f : Flags) (a : Byte) : Byte × Flags :=
  let lowpath := decide (loNibble a > 9) || f.ac
  let trig := decide (loNibble a > 9) || (f.ac && decide (trigger = .path))
  let high := decide (hiNibble a > 9) || f.cy || (decide (hiNibble a ≥ 9) && trig)
  let corr : Byte := (if lowpath then 0x06 else 0x00) ||| (if high then 0x60 else 0x00)
  let sum : Nat := a.toNat + corr.toNat
  let r := BitVec.ofNat 8 sum
  (r, setZSP { f with ac := decide (loNibble a + loNibble corr > 0x0F),
                      cy := decide (sum > 0xFF) || (f.cy && decide (rule = .sticky)) } r)

/-! ### Increment, decrement, sixteen-bit addition (R109 to R111) -/

/-- AluInr(v) (R109): AC, Z, S and P, not CY. -/
def aluInr (f : Flags) (v : Byte) : Byte × Flags :=
  let r := v + 1
  (r, setZSP { f with ac := decide (loNibble r = 0) } r)

/-- AluDcr(v) (R110) for a given form of the auxiliary carry: AC, Z, S and P, not CY. -/
def aluDcr (rule : Config.DcrAcRule) (f : Flags) (v : Byte) : Byte × Flags :=
  let r := v - 1
  let ac := match rule with
    | .borrow => decide (loNibble v = 0)
    | .nonborrow => decide (loNibble v ≠ 0)
  (r, setZSP { f with ac := ac } r)

/-- AluAdd16(x, y) (R111): CY only. -/
def aluAdd16 (f : Flags) (x y : Word) : Word × Flags :=
  let sum : Nat := x.toNat + y.toNat
  (BitVec.ofNat 16 sum, { f with cy := decide (sum > 0xFFFF) })

end Sys2Proof.Machine
end

