-- ==== Sys2Proof/Machine/Alu.lean ====
section
/-! DEFINITION. Accumulator ALU operations (spec/43_alu_ops.md). -/

namespace Sys2Proof.Machine

/-- `A <- r` with the flags of the helper that gave r. -/
def setAccumulator (s : State) (q : Byte × Flags) : State := { setReg s .a q.1 with flags := q.2 }

/-- The ALU operation `aaa` on A and an operand value: the effect of R160 to R167 and, with d8, of R168 to R175 (D23).
The incoming CY is read before it is written. CMP and CPI write no register. -/
def aluEffect (k : AluOp) (y : Byte) (s : State) : State :=
  match k with
  | .add => setAccumulator s (aluAdd s.flags s.regs.a y false)
  | .adc => setAccumulator s (aluAdd s.flags s.regs.a y s.flags.cy)
  | .sub => setAccumulator s (aluSub s.flags s.regs.a y false)
  | .sbb => setAccumulator s (aluSub s.flags s.regs.a y s.flags.cy)
  | .ana => setAccumulator s (aluAnd s.flags s.regs.a y)
  | .xra => setAccumulator s (aluXor s.flags s.regs.a y)
  | .ora => setAccumulator s (aluOr s.flags s.regs.a y)
  | .cmp => { s with flags := aluCmp s.flags s.regs.a y }

/-- ADD S to CMP S (R160 to R167): the operand is a register or the byte at HL. -/
def aluOperand (k : AluOp) (o : Operand) (s : State) : Result :=
  fallThrough (opAlu k o) (aluEffect k (readOperand s o) s)

/-- ADI d8 to CPI d8 (R168 to R175). -/
def aluImmediate (k : AluOp) (d8 : Byte) (s : State) : Result := fallThrough (opAluImm k) (aluEffect k d8 s)

/-- DAA (R176): AluDaa with the parameters of Config (log 5). -/
def decimalAdjust (s : State) : Result :=
  fallThrough 0x27 (setAccumulator s (aluDaa Config.daaHighTrigger Config.daaCarryRule s.flags s.regs.a))

/-- CMA (R177): `A <- A XOR 0xFF`, no flag. -/
def complementAccumulator (s : State) : Result := fallThrough 0x2F (setReg s .a (s.regs.a ^^^ 0xFF))

/-- STC (R178): `CY <- 1`. -/
def setCarry (s : State) : Result := fallThrough 0x37 { s with flags := { s.flags with cy := true } }

/-- CMC (R179): `CY <- NOT CY`. -/
def complementCarry (s : State) : Result := fallThrough 0x3F { s with flags := { s.flags with cy := !s.flags.cy } }


/-! ### One meaning for each instruction of the opcode table -/

/-- DAA (R176). -/
def execDaa (s : State) : Result := decimalAdjust s
/-- CMA (R177). -/
def execCma (s : State) : Result := complementAccumulator s
/-- STC (R178). -/
def execStc (s : State) : Result := setCarry s
/-- CMC (R179). -/
def execCmc (s : State) : Result := complementCarry s
/-- ADD B (R160). -/
def execAddB (s : State) : Result := aluOperand .add (.reg .b) s
/-- ADD C (R160). -/
def execAddC (s : State) : Result := aluOperand .add (.reg .c) s
/-- ADD D (R160). -/
def execAddD (s : State) : Result := aluOperand .add (.reg .d) s
/-- ADD E (R160). -/
def execAddE (s : State) : Result := aluOperand .add (.reg .e) s
/-- ADD H (R160). -/
def execAddH (s : State) : Result := aluOperand .add (.reg .h) s
/-- ADD L (R160). -/
def execAddL (s : State) : Result := aluOperand .add (.reg .l) s
/-- ADD M (R160). -/
def execAddM (s : State) : Result := aluOperand .add .m s
/-- ADD A (R160). -/
def execAddA (s : State) : Result := aluOperand .add (.reg .a) s
/-- ADC B (R161). -/
def execAdcB (s : State) : Result := aluOperand .adc (.reg .b) s
/-- ADC C (R161). -/
def execAdcC (s : State) : Result := aluOperand .adc (.reg .c) s
/-- ADC D (R161). -/
def execAdcD (s : State) : Result := aluOperand .adc (.reg .d) s
/-- ADC E (R161). -/
def execAdcE (s : State) : Result := aluOperand .adc (.reg .e) s
/-- ADC H (R161). -/
def execAdcH (s : State) : Result := aluOperand .adc (.reg .h) s
/-- ADC L (R161). -/
def execAdcL (s : State) : Result := aluOperand .adc (.reg .l) s
/-- ADC M (R161). -/
def execAdcM (s : State) : Result := aluOperand .adc .m s
/-- ADC A (R161). -/
def execAdcA (s : State) : Result := aluOperand .adc (.reg .a) s
/-- SUB B (R162). -/
def execSubB (s : State) : Result := aluOperand .sub (.reg .b) s
/-- SUB C (R162). -/
def execSubC (s : State) : Result := aluOperand .sub (.reg .c) s
/-- SUB D (R162). -/
def execSubD (s : State) : Result := aluOperand .sub (.reg .d) s
/-- SUB E (R162). -/
def execSubE (s : State) : Result := aluOperand .sub (.reg .e) s
/-- SUB H (R162). -/
def execSubH (s : State) : Result := aluOperand .sub (.reg .h) s
/-- SUB L (R162). -/
def execSubL (s : State) : Result := aluOperand .sub (.reg .l) s
/-- SUB M (R162). -/
def execSubM (s : State) : Result := aluOperand .sub .m s
/-- SUB A (R162). -/
def execSubA (s : State) : Result := aluOperand .sub (.reg .a) s
/-- SBB B (R163). -/
def execSbbB (s : State) : Result := aluOperand .sbb (.reg .b) s
/-- SBB C (R163). -/
def execSbbC (s : State) : Result := aluOperand .sbb (.reg .c) s
/-- SBB D (R163). -/
def execSbbD (s : State) : Result := aluOperand .sbb (.reg .d) s
/-- SBB E (R163). -/
def execSbbE (s : State) : Result := aluOperand .sbb (.reg .e) s
/-- SBB H (R163). -/
def execSbbH (s : State) : Result := aluOperand .sbb (.reg .h) s
/-- SBB L (R163). -/
def execSbbL (s : State) : Result := aluOperand .sbb (.reg .l) s
/-- SBB M (R163). -/
def execSbbM (s : State) : Result := aluOperand .sbb .m s
/-- SBB A (R163). -/
def execSbbA (s : State) : Result := aluOperand .sbb (.reg .a) s
/-- ANA B (R164). -/
def execAnaB (s : State) : Result := aluOperand .ana (.reg .b) s
/-- ANA C (R164). -/
def execAnaC (s : State) : Result := aluOperand .ana (.reg .c) s
/-- ANA D (R164). -/
def execAnaD (s : State) : Result := aluOperand .ana (.reg .d) s
/-- ANA E (R164). -/
def execAnaE (s : State) : Result := aluOperand .ana (.reg .e) s
/-- ANA H (R164). -/
def execAnaH (s : State) : Result := aluOperand .ana (.reg .h) s
/-- ANA L (R164). -/
def execAnaL (s : State) : Result := aluOperand .ana (.reg .l) s
/-- ANA M (R164). -/
def execAnaM (s : State) : Result := aluOperand .ana .m s
/-- ANA A (R164). -/
def execAnaA (s : State) : Result := aluOperand .ana (.reg .a) s
/-- XRA B (R165). -/
def execXraB (s : State) : Result := aluOperand .xra (.reg .b) s
/-- XRA C (R165). -/
def execXraC (s : State) : Result := aluOperand .xra (.reg .c) s
/-- XRA D (R165). -/
def execXraD (s : State) : Result := aluOperand .xra (.reg .d) s
/-- XRA E (R165). -/
def execXraE (s : State) : Result := aluOperand .xra (.reg .e) s
/-- XRA H (R165). -/
def execXraH (s : State) : Result := aluOperand .xra (.reg .h) s
/-- XRA L (R165). -/
def execXraL (s : State) : Result := aluOperand .xra (.reg .l) s
/-- XRA M (R165). -/
def execXraM (s : State) : Result := aluOperand .xra .m s
/-- XRA A (R165). -/
def execXraA (s : State) : Result := aluOperand .xra (.reg .a) s
/-- ORA B (R166). -/
def execOraB (s : State) : Result := aluOperand .ora (.reg .b) s
/-- ORA C (R166). -/
def execOraC (s : State) : Result := aluOperand .ora (.reg .c) s
/-- ORA D (R166). -/
def execOraD (s : State) : Result := aluOperand .ora (.reg .d) s
/-- ORA E (R166). -/
def execOraE (s : State) : Result := aluOperand .ora (.reg .e) s
/-- ORA H (R166). -/
def execOraH (s : State) : Result := aluOperand .ora (.reg .h) s
/-- ORA L (R166). -/
def execOraL (s : State) : Result := aluOperand .ora (.reg .l) s
/-- ORA M (R166). -/
def execOraM (s : State) : Result := aluOperand .ora .m s
/-- ORA A (R166). -/
def execOraA (s : State) : Result := aluOperand .ora (.reg .a) s
/-- CMP B (R167). -/
def execCmpB (s : State) : Result := aluOperand .cmp (.reg .b) s
/-- CMP C (R167). -/
def execCmpC (s : State) : Result := aluOperand .cmp (.reg .c) s
/-- CMP D (R167). -/
def execCmpD (s : State) : Result := aluOperand .cmp (.reg .d) s
/-- CMP E (R167). -/
def execCmpE (s : State) : Result := aluOperand .cmp (.reg .e) s
/-- CMP H (R167). -/
def execCmpH (s : State) : Result := aluOperand .cmp (.reg .h) s
/-- CMP L (R167). -/
def execCmpL (s : State) : Result := aluOperand .cmp (.reg .l) s
/-- CMP M (R167). -/
def execCmpM (s : State) : Result := aluOperand .cmp .m s
/-- CMP A (R167). -/
def execCmpA (s : State) : Result := aluOperand .cmp (.reg .a) s
/-- ADI d8 (R168). -/
def execAdi (d8 : Byte) (s : State) : Result := aluImmediate .add d8 s
/-- ACI d8 (R169). -/
def execAci (d8 : Byte) (s : State) : Result := aluImmediate .adc d8 s
/-- SUI d8 (R170). -/
def execSui (d8 : Byte) (s : State) : Result := aluImmediate .sub d8 s
/-- SBI d8 (R171). -/
def execSbi (d8 : Byte) (s : State) : Result := aluImmediate .sbb d8 s
/-- ANI d8 (R172). -/
def execAni (d8 : Byte) (s : State) : Result := aluImmediate .ana d8 s
/-- XRI d8 (R173). -/
def execXri (d8 : Byte) (s : State) : Result := aluImmediate .xra d8 s
/-- ORI d8 (R174). -/
def execOri (d8 : Byte) (s : State) : Result := aluImmediate .ora d8 s
/-- CPI d8 (R175). -/
def execCpi (d8 : Byte) (s : State) : Result := aluImmediate .cmp d8 s

end Sys2Proof.Machine
end

