-- ==== Sys2Proof/Machine/Control.lean ====
section
/-! DEFINITION. Control transfer (spec/46_control.md). No instruction here writes a flag. -/

namespace Sys2Proof.Machine

/-- JMP a16 (R251). -/
def jump (a16 : Word) (s : State) : Result := jumpTo 0xC3 a16 s

/-- Jcc a16 (R252 to R260). -/
def jumpIf (k : Cond) (a16 : Word) (s : State) : Result :=
  if Cond.holds k s.flags then jumpTaken (opJcc k) a16 s else fallThrough (opJcc k) s

/-- CALL a16 (R261): the address of the next instruction is pushed. -/
def callSubroutine (a16 : Word) (s : State) : Result := jumpTo 0xCD a16 (push16 (nextPc 0xCD s) s)

/-- Ccc a16 (R262 to R270): no stack access when not taken. -/
def callIf (k : Cond) (a16 : Word) (s : State) : Result :=
  if Cond.holds k s.flags then jumpTaken (opCcc k) a16 (push16 (nextPc (opCcc k) s) s) else fallThrough (opCcc k) s

/-- RET (R271). -/
def returnFromCall (s : State) : Result :=
  let q := pop16 s
  jumpTo 0xC9 q.1 q.2

/-- Rcc (R272 to R280): no stack access when not taken. -/
def returnIf (k : Cond) (s : State) : Result :=
  if Cond.holds k s.flags then
    let q := pop16 s
    jumpTaken (opRcc k) q.1 q.2
  else fallThrough (opRcc k) s

/-- RST n (R281): the address of the next instruction is pushed, the target is n * 8. -/
def restart (n : Fin 8) (s : State) : Result :=
  jumpTo (opRst n) (BitVec.ofNat 16 (n.val * 8)) (push16 (nextPc (opRst n) s) s)

/-- PCHL (R282). -/
def jumpToHl (s : State) : Result := jumpTo 0xE9 (hl s) s


/-! ### One meaning for each instruction of the opcode table -/

/-- RNZ (R273). -/
def execRnz (s : State) : Result := returnIf .nz s
/-- JNZ a16 (R253). -/
def execJnz (a16 : Word) (s : State) : Result := jumpIf .nz a16 s
/-- JMP a16 (R251). -/
def execJmp (a16 : Word) (s : State) : Result := jump a16 s
/-- CNZ a16 (R263). -/
def execCnz (a16 : Word) (s : State) : Result := callIf .nz a16 s
/-- RST 0 (R281). -/
def execRst0 (s : State) : Result := restart 0 s
/-- RZ (R274). -/
def execRz (s : State) : Result := returnIf .z s
/-- RET (R271). -/
def execRet (s : State) : Result := returnFromCall s
/-- JZ a16 (R254). -/
def execJz (a16 : Word) (s : State) : Result := jumpIf .z a16 s
/-- CZ a16 (R264). -/
def execCz (a16 : Word) (s : State) : Result := callIf .z a16 s
/-- CALL a16 (R261). -/
def execCall (a16 : Word) (s : State) : Result := callSubroutine a16 s
/-- RST 1 (R281). -/
def execRst1 (s : State) : Result := restart 1 s
/-- RNC (R275). -/
def execRnc (s : State) : Result := returnIf .nc s
/-- JNC a16 (R255). -/
def execJnc (a16 : Word) (s : State) : Result := jumpIf .nc a16 s
/-- CNC a16 (R265). -/
def execCnc (a16 : Word) (s : State) : Result := callIf .nc a16 s
/-- RST 2 (R281). -/
def execRst2 (s : State) : Result := restart 2 s
/-- RC (R276). -/
def execRc (s : State) : Result := returnIf .c s
/-- JC a16 (R256). -/
def execJc (a16 : Word) (s : State) : Result := jumpIf .c a16 s
/-- CC a16 (R266). -/
def execCc (a16 : Word) (s : State) : Result := callIf .c a16 s
/-- RST 3 (R281). -/
def execRst3 (s : State) : Result := restart 3 s
/-- RPO (R277). -/
def execRpo (s : State) : Result := returnIf .po s
/-- JPO a16 (R257). -/
def execJpo (a16 : Word) (s : State) : Result := jumpIf .po a16 s
/-- CPO a16 (R267). -/
def execCpo (a16 : Word) (s : State) : Result := callIf .po a16 s
/-- RST 4 (R281). -/
def execRst4 (s : State) : Result := restart 4 s
/-- RPE (R278). -/
def execRpe (s : State) : Result := returnIf .pe s
/-- PCHL (R282). -/
def execPchl (s : State) : Result := jumpToHl s
/-- JPE a16 (R258). -/
def execJpe (a16 : Word) (s : State) : Result := jumpIf .pe a16 s
/-- CPE a16 (R268). -/
def execCpe (a16 : Word) (s : State) : Result := callIf .pe a16 s
/-- RST 5 (R281). -/
def execRst5 (s : State) : Result := restart 5 s
/-- RP (R279). -/
def execRp (s : State) : Result := returnIf .p s
/-- JP a16 (R259). -/
def execJp (a16 : Word) (s : State) : Result := jumpIf .p a16 s
/-- CP a16 (R269). -/
def execCp (a16 : Word) (s : State) : Result := callIf .p a16 s
/-- RST 6 (R281). -/
def execRst6 (s : State) : Result := restart 6 s
/-- RM (R280). -/
def execRm (s : State) : Result := returnIf .m s
/-- JM a16 (R260). -/
def execJm (a16 : Word) (s : State) : Result := jumpIf .m a16 s
/-- CM a16 (R270). -/
def execCm (a16 : Word) (s : State) : Result := callIf .m a16 s
/-- RST 7 (R281). -/
def execRst7 (s : State) : Result := restart 7 s

end Sys2Proof.Machine
end

