-- ==== Sys2Proof/Machine/IncDec.lean ====
section
/-! DEFINITION. Increment, decrement and rotate (spec/45_incdec_rotate.md). -/

namespace Sys2Proof.Machine

/-- `reg[c] <- r` with the flags of the helper that gave r. -/
def setResult (s : State) (o : Operand) (q : Byte × Flags) : State := { writeOperand s o q.1 with flags := q.2 }

/-- INR r (R230). -/
def incrementRegister (r : Reg) (s : State) : Result :=
  fallThrough (opInr (.reg r)) (setResult s (.reg r) (aluInr s.flags (getReg s r)))

/-- INR M (R231): a read, then a write of the byte at HL. -/
def incrementMemory (s : State) : Result :=
  fallThrough (opInr .m) (setResult s .m (aluInr s.flags (readOperand s .m)))

/-- DCR r (R232), with the auxiliary carry of DCR_AC_RULE (log 4). -/
def decrementRegister (r : Reg) (s : State) : Result :=
  fallThrough (opDcr (.reg r)) (setResult s (.reg r) (aluDcr Config.dcrAcRule s.flags (getReg s r)))

/-- DCR M (R233), as R232 on the byte at HL. -/
def decrementMemory (s : State) : Result :=
  fallThrough (opDcr .m) (setResult s .m (aluDcr Config.dcrAcRule s.flags (readOperand s .m)))

/-- `A <- v; CY <- c`, the other flags unchanged: the end of each rotate. -/
def setRotated (s : State) (v : Byte) (c : Bool) : State := { setReg s .a v with flags := { s.flags with cy := c } }

/-- RLC (R234): bit 7 goes to bit 0 and to CY. -/
def rotateLeft (s : State) : Result :=
  let c := s.regs.a.getLsbD 7
  fallThrough 0x07 (setRotated s (s.regs.a.extractLsb' 0 7 ++ BitVec.ofBool c) c)

/-- RRC (R235): bit 0 goes to bit 7 and to CY. -/
def rotateRight (s : State) : Result :=
  let c := s.regs.a.getLsbD 0
  fallThrough 0x0F (setRotated s (BitVec.ofBool c ++ s.regs.a.extractLsb' 1 7) c)

/-- RAL (R236): the old carry enters bit 0, bit 7 goes to CY. -/
def rotateLeftThroughCarry (s : State) : Result :=
  fallThrough 0x17 (setRotated s (s.regs.a.extractLsb' 0 7 ++ BitVec.ofBool s.flags.cy) (s.regs.a.getLsbD 7))

/-- RAR (R237): the old carry enters bit 7, bit 0 goes to CY. -/
def rotateRightThroughCarry (s : State) : Result :=
  fallThrough 0x1F (setRotated s (BitVec.ofBool s.flags.cy ++ s.regs.a.extractLsb' 1 7) (s.regs.a.getLsbD 0))


/-! ### One meaning for each instruction of the opcode table -/

/-- INR B (R230). -/
def execInrB (s : State) : Result := incrementRegister .b s
/-- DCR B (R232). -/
def execDcrB (s : State) : Result := decrementRegister .b s
/-- RLC (R234). -/
def execRlc (s : State) : Result := rotateLeft s
/-- INR C (R230). -/
def execInrC (s : State) : Result := incrementRegister .c s
/-- DCR C (R232). -/
def execDcrC (s : State) : Result := decrementRegister .c s
/-- RRC (R235). -/
def execRrc (s : State) : Result := rotateRight s
/-- INR D (R230). -/
def execInrD (s : State) : Result := incrementRegister .d s
/-- DCR D (R232). -/
def execDcrD (s : State) : Result := decrementRegister .d s
/-- RAL (R236). -/
def execRal (s : State) : Result := rotateLeftThroughCarry s
/-- INR E (R230). -/
def execInrE (s : State) : Result := incrementRegister .e s
/-- DCR E (R232). -/
def execDcrE (s : State) : Result := decrementRegister .e s
/-- RAR (R237). -/
def execRar (s : State) : Result := rotateRightThroughCarry s
/-- INR H (R230). -/
def execInrH (s : State) : Result := incrementRegister .h s
/-- DCR H (R232). -/
def execDcrH (s : State) : Result := decrementRegister .h s
/-- INR L (R230). -/
def execInrL (s : State) : Result := incrementRegister .l s
/-- DCR L (R232). -/
def execDcrL (s : State) : Result := decrementRegister .l s
/-- INR M (R231). -/
def execInrM (s : State) : Result := incrementMemory s
/-- DCR M (R233). -/
def execDcrM (s : State) : Result := decrementMemory s
/-- INR A (R230). -/
def execInrA (s : State) : Result := incrementRegister .a s
/-- DCR A (R232). -/
def execDcrA (s : State) : Result := decrementRegister .a s

end Sys2Proof.Machine
end

