-- ==== Sys2Proof/Machine/Invalid.lean ====
section
/-! DEFINITION. The 12 invalid opcodes (spec/41_dispatcher.md R139, spec/60_exceptions.md R330, R331). -/

namespace Sys2Proof.Machine

/-- An invalid opcode (R139): the core's one fault, with the opcode and the PC; nothing is written. -/
def execInvalid (op : Byte) (s : State) : Result := raiseInvalidOpcode op s

end Sys2Proof.Machine
end

