-- ==== Sys2Proof/Machine/Loads.lean ====
section
/-! DEFINITION. Immediate loads, register-pair arithmetic, loads and stores (spec/44_loads_pairs.md). -/

namespace Sys2Proof.Machine

/-- MVI r,d8 (R200). -/
def mviRegister (r : Reg) (d8 : Byte) (s : State) : Result := fallThrough (opMvi (.reg r)) (setReg s r d8)

/-- MVI M,d8 (R201). -/
def mviMemory (d8 : Byte) (s : State) : Result := fallThrough (opMvi .m) (writeOperand s .m d8)

/-- LXI rp,d16 (R202). -/
def loadPairImmediate (q : RegPair) (d16 : Word) (s : State) : Result := fallThrough (opLxi q) (setRegPair s q d16)

/-- INX rp (R203): modulo 2^16, no flag. -/
def incrementPair (q : RegPair) (s : State) : Result := fallThrough (opInx q) (setRegPair s q (getRegPair s q + 1))

/-- DCX rp (R204): modulo 2^16, no flag. -/
def decrementPair (q : RegPair) (s : State) : Result := fallThrough (opDcx q) (setRegPair s q (getRegPair s q - 1))

/-- DAD rp (R205): `pair(2) <- AluAdd16(pair(2), pair(rp))`, CY only. -/
def addPairToHl (q : RegPair) (s : State) : Result :=
  let r := aluAdd16 s.flags (hl s) (getRegPair s q)
  fallThrough (opDad q) { setPair s .hl r.1 with flags := r.2 }

/-- The address in the pair that LDAX and STAX name (R206, R207). -/
def indexAddress (q : IndexPair) (s : State) : Word :=
  match q with
  | .bc => getPair s .bc
  | .de => getPair s .de

/-- LDAX rp (R206). -/
def loadIndirect (q : IndexPair) (s : State) : Result :=
  fallThrough (opLdax q) (setReg s .a (memRead s (indexAddress q s)))

/-- STAX rp (R207). -/
def storeIndirect (q : IndexPair) (s : State) : Result :=
  fallThrough (opStax q) (memWrite s (indexAddress q s) s.regs.a)

/-- LDA a16 (R208). -/
def loadDirect (a16 : Word) (s : State) : Result := fallThrough 0x3A (setReg s .a (memRead s a16))

/-- STA a16 (R209). -/
def storeDirect (a16 : Word) (s : State) : Result := fallThrough 0x32 (memWrite s a16 s.regs.a)

/-- LHLD a16 (R210): L from a16, H from a16 + 1 modulo 2^16. -/
def loadHlDirect (a16 : Word) (s : State) : Result := fallThrough 0x2A (setPair s .hl (read16 s a16))

/-- SHLD a16 (R211): L at a16, H at a16 + 1 modulo 2^16. -/
def storeHlDirect (a16 : Word) (s : State) : Result := fallThrough 0x22 (write16 s a16 (hl s))


/-! ### One meaning for each instruction of the opcode table -/

/-- LXI B,d16 (R202). -/
def execLxiB (d16 : Word) (s : State) : Result := loadPairImmediate (.pair .bc) d16 s
/-- STAX B (R207). -/
def execStaxB (s : State) : Result := storeIndirect .bc s
/-- INX B (R203). -/
def execInxB (s : State) : Result := incrementPair (.pair .bc) s
/-- MVI B,d8 (R200). -/
def execMviB (d8 : Byte) (s : State) : Result := mviRegister .b d8 s
/-- DAD B (R205). -/
def execDadB (s : State) : Result := addPairToHl (.pair .bc) s
/-- LDAX B (R206). -/
def execLdaxB (s : State) : Result := loadIndirect .bc s
/-- DCX B (R204). -/
def execDcxB (s : State) : Result := decrementPair (.pair .bc) s
/-- MVI C,d8 (R200). -/
def execMviC (d8 : Byte) (s : State) : Result := mviRegister .c d8 s
/-- LXI D,d16 (R202). -/
def execLxiD (d16 : Word) (s : State) : Result := loadPairImmediate (.pair .de) d16 s
/-- STAX D (R207). -/
def execStaxD (s : State) : Result := storeIndirect .de s
/-- INX D (R203). -/
def execInxD (s : State) : Result := incrementPair (.pair .de) s
/-- MVI D,d8 (R200). -/
def execMviD (d8 : Byte) (s : State) : Result := mviRegister .d d8 s
/-- DAD D (R205). -/
def execDadD (s : State) : Result := addPairToHl (.pair .de) s
/-- LDAX D (R206). -/
def execLdaxD (s : State) : Result := loadIndirect .de s
/-- DCX D (R204). -/
def execDcxD (s : State) : Result := decrementPair (.pair .de) s
/-- MVI E,d8 (R200). -/
def execMviE (d8 : Byte) (s : State) : Result := mviRegister .e d8 s
/-- LXI H,d16 (R202). -/
def execLxiH (d16 : Word) (s : State) : Result := loadPairImmediate (.pair .hl) d16 s
/-- SHLD a16 (R211). -/
def execShld (a16 : Word) (s : State) : Result := storeHlDirect a16 s
/-- INX H (R203). -/
def execInxH (s : State) : Result := incrementPair (.pair .hl) s
/-- MVI H,d8 (R200). -/
def execMviH (d8 : Byte) (s : State) : Result := mviRegister .h d8 s
/-- DAD H (R205). -/
def execDadH (s : State) : Result := addPairToHl (.pair .hl) s
/-- LHLD a16 (R210). -/
def execLhld (a16 : Word) (s : State) : Result := loadHlDirect a16 s
/-- DCX H (R204). -/
def execDcxH (s : State) : Result := decrementPair (.pair .hl) s
/-- MVI L,d8 (R200). -/
def execMviL (d8 : Byte) (s : State) : Result := mviRegister .l d8 s
/-- LXI SP,d16 (R202). -/
def execLxiSp (d16 : Word) (s : State) : Result := loadPairImmediate .sp d16 s
/-- STA a16 (R209). -/
def execSta (a16 : Word) (s : State) : Result := storeDirect a16 s
/-- INX SP (R203). -/
def execInxSp (s : State) : Result := incrementPair .sp s
/-- MVI M,d8 (R201). -/
def execMviM (d8 : Byte) (s : State) : Result := mviMemory d8 s
/-- DAD SP (R205). -/
def execDadSp (s : State) : Result := addPairToHl .sp s
/-- LDA a16 (R208). -/
def execLda (a16 : Word) (s : State) : Result := loadDirect a16 s
/-- DCX SP (R204). -/
def execDcxSp (s : State) : Result := decrementPair .sp s
/-- MVI A,d8 (R200). -/
def execMviA (d8 : Byte) (s : State) : Result := mviRegister .a d8 s

end Sys2Proof.Machine
end

