-- ==== Sys2Proof/Machine/Move.lean ====
section
/-! DEFINITION. Register move family and halt (spec/42_move_halt.md). -/

namespace Sys2Proof.Machine

/-- MOV r1,r2 (R150): `reg[ddd] <- reg[sss]`. -/
def movReg (dst src : Reg) (s : State) : Result :=
  fallThrough (opMov (.reg dst) (.reg src)) (setReg s dst (getReg s src))

/-- MOV r,M (R151): `reg[ddd] <- MemRead(pair(2), 1)`, the byte at the old HL. -/
def movFromM (dst : Reg) (s : State) : Result :=
  fallThrough (opMov (.reg dst) .m) (setReg s dst (readOperand s .m))

/-- MOV M,r (R152): `MemWrite(pair(2), 1, reg[sss])`. -/
def movToM (r : Reg) (s : State) : Result :=
  fallThrough (opMov .m (.reg r)) (writeOperand s .m (getReg s r))

/-- HLT (R153): `HALTED <- 1`, then the fall-through. -/
def halt (s : State) : Result := fallThrough 0x76 { s with halted := true }


/-! ### One meaning for each instruction of the opcode table -/

/-- MOV B,B (R150). -/
def execMovBB (s : State) : Result := movReg .b .b s
/-- MOV B,C (R150). -/
def execMovBC (s : State) : Result := movReg .b .c s
/-- MOV B,D (R150). -/
def execMovBD (s : State) : Result := movReg .b .d s
/-- MOV B,E (R150). -/
def execMovBE (s : State) : Result := movReg .b .e s
/-- MOV B,H (R150). -/
def execMovBH (s : State) : Result := movReg .b .h s
/-- MOV B,L (R150). -/
def execMovBL (s : State) : Result := movReg .b .l s
/-- MOV B,M (R151). -/
def execMovBM (s : State) : Result := movFromM .b s
/-- MOV B,A (R150). -/
def execMovBA (s : State) : Result := movReg .b .a s
/-- MOV C,B (R150). -/
def execMovCB (s : State) : Result := movReg .c .b s
/-- MOV C,C (R150). -/
def execMovCC (s : State) : Result := movReg .c .c s
/-- MOV C,D (R150). -/
def execMovCD (s : State) : Result := movReg .c .d s
/-- MOV C,E (R150). -/
def execMovCE (s : State) : Result := movReg .c .e s
/-- MOV C,H (R150). -/
def execMovCH (s : State) : Result := movReg .c .h s
/-- MOV C,L (R150). -/
def execMovCL (s : State) : Result := movReg .c .l s
/-- MOV C,M (R151). -/
def execMovCM (s : State) : Result := movFromM .c s
/-- MOV C,A (R150). -/
def execMovCA (s : State) : Result := movReg .c .a s
/-- MOV D,B (R150). -/
def execMovDB (s : State) : Result := movReg .d .b s
/-- MOV D,C (R150). -/
def execMovDC (s : State) : Result := movReg .d .c s
/-- MOV D,D (R150). -/
def execMovDD (s : State) : Result := movReg .d .d s
/-- MOV D,E (R150). -/
def execMovDE (s : State) : Result := movReg .d .e s
/-- MOV D,H (R150). -/
def execMovDH (s : State) : Result := movReg .d .h s
/-- MOV D,L (R150). -/
def execMovDL (s : State) : Result := movReg .d .l s
/-- MOV D,M (R151). -/
def execMovDM (s : State) : Result := movFromM .d s
/-- MOV D,A (R150). -/
def execMovDA (s : State) : Result := movReg .d .a s
/-- MOV E,B (R150). -/
def execMovEB (s : State) : Result := movReg .e .b s
/-- MOV E,C (R150). -/
def execMovEC (s : State) : Result := movReg .e .c s
/-- MOV E,D (R150). -/
def execMovED (s : State) : Result := movReg .e .d s
/-- MOV E,E (R150). -/
def execMovEE (s : State) : Result := movReg .e .e s
/-- MOV E,H (R150). -/
def execMovEH (s : State) : Result := movReg .e .h s
/-- MOV E,L (R150). -/
def execMovEL (s : State) : Result := movReg .e .l s
/-- MOV E,M (R151). -/
def execMovEM (s : State) : Result := movFromM .e s
/-- MOV E,A (R150). -/
def execMovEA (s : State) : Result := movReg .e .a s
/-- MOV H,B (R150). -/
def execMovHB (s : State) : Result := movReg .h .b s
/-- MOV H,C (R150). -/
def execMovHC (s : State) : Result := movReg .h .c s
/-- MOV H,D (R150). -/
def execMovHD (s : State) : Result := movReg .h .d s
/-- MOV H,E (R150). -/
def execMovHE (s : State) : Result := movReg .h .e s
/-- MOV H,H (R150). -/
def execMovHH (s : State) : Result := movReg .h .h s
/-- MOV H,L (R150). -/
def execMovHL (s : State) : Result := movReg .h .l s
/-- MOV H,M (R151). -/
def execMovHM (s : State) : Result := movFromM .h s
/-- MOV H,A (R150). -/
def execMovHA (s : State) : Result := movReg .h .a s
/-- MOV L,B (R150). -/
def execMovLB (s : State) : Result := movReg .l .b s
/-- MOV L,C (R150). -/
def execMovLC (s : State) : Result := movReg .l .c s
/-- MOV L,D (R150). -/
def execMovLD (s : State) : Result := movReg .l .d s
/-- MOV L,E (R150). -/
def execMovLE (s : State) : Result := movReg .l .e s
/-- MOV L,H (R150). -/
def execMovLH (s : State) : Result := movReg .l .h s
/-- MOV L,L (R150). -/
def execMovLL (s : State) : Result := movReg .l .l s
/-- MOV L,M (R151). -/
def execMovLM (s : State) : Result := movFromM .l s
/-- MOV L,A (R150). -/
def execMovLA (s : State) : Result := movReg .l .a s
/-- MOV M,B (R152). -/
def execMovMB (s : State) : Result := movToM .b s
/-- MOV M,C (R152). -/
def execMovMC (s : State) : Result := movToM .c s
/-- MOV M,D (R152). -/
def execMovMD (s : State) : Result := movToM .d s
/-- MOV M,E (R152). -/
def execMovME (s : State) : Result := movToM .e s
/-- MOV M,H (R152). -/
def execMovMH (s : State) : Result := movToM .h s
/-- MOV M,L (R152). -/
def execMovML (s : State) : Result := movToM .l s
/-- HLT (R153). -/
def execHlt (s : State) : Result := halt s
/-- MOV M,A (R152). -/
def execMovMA (s : State) : Result := movToM .a s
/-- MOV A,B (R150). -/
def execMovAB (s : State) : Result := movReg .a .b s
/-- MOV A,C (R150). -/
def execMovAC (s : State) : Result := movReg .a .c s
/-- MOV A,D (R150). -/
def execMovAD (s : State) : Result := movReg .a .d s
/-- MOV A,E (R150). -/
def execMovAE (s : State) : Result := movReg .a .e s
/-- MOV A,H (R150). -/
def execMovAH (s : State) : Result := movReg .a .h s
/-- MOV A,L (R150). -/
def execMovAL (s : State) : Result := movReg .a .l s
/-- MOV A,M (R151). -/
def execMovAM (s : State) : Result := movFromM .a s
/-- MOV A,A (R150). -/
def execMovAA (s : State) : Result := movReg .a .a s

end Sys2Proof.Machine
end

