-- ==== Sys2Proof/Machine/Stack.lean ====
section
/-! DEFINITION. Stack, exchange, interrupt-enable, port I/O and NOP (spec/47_stack_io_misc.md). -/

namespace Sys2Proof.Machine

/-- PUSH rp (R300). -/
def pushPair (q : Pair) (s : State) : Result := fallThrough (opPush q) (push16 (getPair s q) s)

/-- PUSH PSW (R301): `Push16(A ++ PackF())`. -/
def pushAccumulatorFlags (s : State) : Result := fallThrough 0xF5 (push16 (psw s) s)

/-- POP rp (R302). -/
def popPair (q : Pair) (s : State) : Result :=
  let r := pop16 s
  fallThrough (opPop q) (setPair r.2 q r.1)

/-- POP PSW (R303): A and the five flags from the popped word. -/
def popAccumulatorFlags (s : State) : Result :=
  let r := pop16 s
  fallThrough 0xF1 { setReg r.2 .a (hiByte r.1) with flags := unpackF (loByte r.1) }

/-- XTHL (R304): both bytes are read before both are written; SP unchanged. -/
def exchangeStackTop (s : State) : Result :=
  let v := read16 s s.sp
  fallThrough 0xE3 (setPair (write16 s s.sp (hl s)) .hl v)

/-- SPHL (R305). -/
def loadSpFromHl (s : State) : Result := fallThrough 0xF9 { s with sp := hl s }

/-- XCHG (R306): DE and HL. -/
def exchangePairs (s : State) : Result :=
  fallThrough 0xEB (setPair (setPair s .de (getPair s .hl)) .hl (getPair s .de))

/-- EI (R307). INTE has no other effect: the core has no interrupt (R33, R334). -/
def enableInterrupts (s : State) : Result := fallThrough 0xFB { s with inte := true }

/-- DI (R308). -/
def disableInterrupts (s : State) : Result := fallThrough 0xF3 { s with inte := false }

/-- IN p8 (R309): `A <- PortIn(p8)`, a free byte (log 2). -/
def inputFromPort (p8 : Byte) (s : State) : Result :=
  let r := portRead p8 s
  fallThrough 0xDB (setReg r.2 .a r.1)

/-- OUT p8 (R310): `PortOut(p8, A)`. -/
def outputToPort (p8 : Byte) (s : State) : Result := fallThrough 0xD3 (portWrite p8 s.regs.a s)

/-- NOP (R311). -/
def noOperation (s : State) : Result := fallThrough 0x00 s


/-! ### One meaning for each instruction of the opcode table -/

/-- NOP (R311). -/
def execNop (s : State) : Result := noOperation s
/-- POP B (R302). -/
def execPopB (s : State) : Result := popPair .bc s
/-- PUSH B (R300). -/
def execPushB (s : State) : Result := pushPair .bc s
/-- POP D (R302). -/
def execPopD (s : State) : Result := popPair .de s
/-- OUT p8 (R310). -/
def execOutPort (p8 : Byte) (s : State) : Result := outputToPort p8 s
/-- PUSH D (R300). -/
def execPushD (s : State) : Result := pushPair .de s
/-- IN p8 (R309). -/
def execInPort (p8 : Byte) (s : State) : Result := inputFromPort p8 s
/-- POP H (R302). -/
def execPopH (s : State) : Result := popPair .hl s
/-- XTHL (R304). -/
def execXthl (s : State) : Result := exchangeStackTop s
/-- PUSH H (R300). -/
def execPushH (s : State) : Result := pushPair .hl s
/-- XCHG (R306). -/
def execXchg (s : State) : Result := exchangePairs s
/-- POP PSW (R303). -/
def execPopPsw (s : State) : Result := popAccumulatorFlags s
/-- DI (R308). -/
def execDi (s : State) : Result := disableInterrupts s
/-- PUSH PSW (R301). -/
def execPushPsw (s : State) : Result := pushAccumulatorFlags s
/-- SPHL (R305). -/
def execSphl (s : State) : Result := loadSpFromHl s
/-- EI (R307). -/
def execEi (s : State) : Result := enableInterrupts s

end Sys2Proof.Machine
end

