-- ==== Sys2Proof/Machine/Fetch.lean ====
section
/-! DEFINITION. What a step does before an instruction's rule runs (spec/41_dispatcher.md R131 to R134, R141), and placing
an instruction where the next fetch reads it. -/

namespace Sys2Proof.Machine

/-- The stop before the fetch: a halted core has no step (R131). Log 9. -/
def stopBeforeFetch (s : State) : Option Fault := if s.halted then some .halted else none

/-- The opcode byte at PC (R132). -/
def fetchOpcode (s : State) : Byte := memRead s s.pc

/-- The opcode byte and the two bytes after it, addresses modulo 2^16 (R132, R133). Reading b2 and b3 of a shorter
instruction too makes no difference (R133, R51). -/
def fetchBytes (s : State) : List Byte := [fetchOpcode s, memRead s (s.pc + 1), memRead s (s.pc + 2)]

/-- The instruction at PC (R134), fetched before anything is written (R63). -/
def fetchInstr (s : State) : Instr := decodeOp (fetchOpcode s) (memRead s (s.pc + 1)) (memRead s (s.pc + 2))

/-- The bytes at the address `a` and after it, modulo 2^16. -/
def placeBytes (s : State) (a : Word) : List Byte → State
  | [] => s
  | v :: rest => placeBytes (memWrite s a v) (a + 1) rest

end Sys2Proof.Machine
end

