-- ==== Sys2Proof/Machine/Step.lean ====
section
/-! DEFINITION. One step of the core (spec/41_dispatcher.md R130, R141). -/

namespace Sys2Proof.Machine

/-- Step() (R141): no step when halted, else the rule of the instruction at PC. -/
def step (s : State) : Host.Outcome State Fault Refusal :=
  match stopBeforeFetch s with
  | some f => .fault f
  | none => exec (fetchInstr s) s

/-- The state with an instruction of the opcode table's numbering at PC, PC + 1 and PC + 2 (log 11). A halted state stays
halted. -/
def State.withFetchWord (s : State) (nbits w : Nat) : State := placeBytes s s.pc (tableWordBytes nbits w)

end Sys2Proof.Machine
end

