-- ==== Sys2Proof/Machine/HostOps.lean ====
section
/-! DEFINITION. What the host may do to the core between steps (spec/60_exceptions.md R341, spec/70_reset_and_hazards.md
R370, R371, R373, D20). No step performs these (log 12). -/

namespace Sys2Proof.Machine

/-- The reset operation (R370): every field of the record of R20 takes its reset value; memory is not touched (R371), nor
are the outputs already given and the draw counter. -/
def hostReset (s : State) : State :=
  { State.reset with mem := s.mem, cycles := s.cycles, portIn := s.portIn, portOut := s.portOut }

/-- The state at the first step of a launch whose memory is `m` (R371: the initial memory is part of the launch). -/
def State.launch (m : Memory) : State := { State.reset with mem := m }

/-- The host sets PC (R341, R372). -/
def hostSetPc (v : Word) (s : State) : State := { s with pc := v }

/-- The host sets SP (R341, R372). -/
def hostSetSp (v : Word) (s : State) : State := { s with sp := v }

/-- The host writes a byte of memory (R341). -/
def hostWrite (a : Word) (v : Byte) (s : State) : State := memWrite s a v

/-- The host reads a byte of memory (R341). -/
def hostRead (a : Word) (s : State) : Byte := memRead s a

/-- The image bytes from an address on. -/
def hostWriteAll (s : State) (base : Nat) : List Byte → State
  | [] => s
  | v :: rest => hostWriteAll (memWrite s (BitVec.ofNat 16 base) v) (base + 1) rest

/-- The image loader: writes the image, or reports failure (none) if it does not fit the address space (R341, R373). -/
def hostLoad (base : Nat) (image : List Byte) (s : State) : Option State :=
  if base + image.length ≤ 65536 then some (hostWriteAll s base image) else none

end Sys2Proof.Machine
end

