-- ==== Sys2Proof/Safety.lean ====
section
/-! DEFINITION. What the claims call a good state and a safe run. -/

namespace Sys2Proof

open Sys2Proof.Machine

/-- The invariant of the model: memory is in its canonical form. -/
def Canonical (s : State) : Prop := Memory.wf s.mem = true

/-- The step answers a next state. -/
def Completes (q : Result) : Prop := ∃ t, q = .next t

/-- The run is final-and-failed (R331): the state's step is the invalid-opcode fault. -/
def Failed (s : State) : Prop := ∃ op pc, step s = .fault (.invalidOpcode op pc)

/-- The run is over (R131): the state is halted. -/
def Terminal (s : State) : Prop := s.halted = true

/-- No state that `n` steps from `s` reach is final-and-failed: each step completes or the core is halted. -/
def SafeFor : Nat → State → Prop
  | 0, _ => True
  | n + 1, s => Terminal s ∨ ∃ t, step s = .next t ∧ SafeFor n t

end Sys2Proof
end

