-- ==== Sys2Proof/Certificates/Slice0/Obligations.lean ====
section
/-! DEFINITION. The statements about the model, each from numbered rules of spec/. The first part names what several of
them say; every obligation is a def Obligations.<Name>. A docstring that begins with rules states them; one that begins with From
rests on them. Cycle counts are those each rule gives as its default (BASE_CYCLES, spec/70_reset_and_hazards.md R377; the
spec's decision D13, log 6). -/

namespace Sys2Proof.Claims

open Sys2Proof.Machine

/-- The bytes are exactly one instruction, `i`. -/
def DecodesTo (bytes : List Byte) (i : Instr) : Prop := decode bytes = .ok (i, [])

/-- The number of set bits is even (R100), counted bit by bit. -/
def evenParity (v : Byte) : Bool := decide ((List.range 8).countP (fun k => v.getLsbD k) % 2 = 0)

/-- Z, S and P are those of the result `r` (R101). -/
def ZspOf (f : Flags) (r : Byte) : Prop := f.z = decide (r.toNat = 0) ∧ f.s = r.msb ∧ f.p = evenParity r

/-- `i` in `s` completes, falling through `len` bytes with the given cycle count, and has written nothing but the listed
parts: registers, SP, flags and memory of the next state satisfy `post`, all other fields are as before. -/
def Runs (i : Instr) (s : State) (pc : Word) (cycles : Nat) (post : Regs → Word → Flags → Memory → Prop) : Prop :=
  ∃ t, exec i s = .next t ∧
    t = { s with regs := t.regs, sp := t.sp, flags := t.flags, mem := t.mem, pc := pc, cycles := cycles } ∧
    post t.regs t.sp t.flags t.mem

/-- Every byte of `m` reads as in `s`. -/
def SameMemory (s : State) (m : Memory) : Prop := ∀ x, Memory.read m x = memRead s x

/-- `m` is the memory of `s` with the byte `v` at `a`: every other byte reads as before. -/
def StoredByte (s : State) (m : Memory) (a : Word) (v : Byte) : Prop :=
  ∀ x, Memory.read m x = if x = a then v else memRead s x

/-- `m` is the memory of `s` with the byte `lo` at `a` and `hi` at `a + 1`, modulo 2^16. -/
def StoredWord (s : State) (m : Memory) (a : Word) (hi lo : Byte) : Prop :=
  ∀ x, Memory.read m x = if x = a then lo else if x = a + 1 then hi else memRead s x

/-- The value of an 8-bit operand (R22): the register, or the byte at HL. -/
def operandValue (s : State) : Operand → Byte
  | .reg r => Regs.get s.regs r
  | .m => memRead s (hl s)

/-- `q` is the register file of `s` but for the register `r`, which holds `v`. -/
def WroteReg (s : State) (q : Regs) (r : Reg) (v : Byte) : Prop :=
  ∀ r', Regs.get q r' = if r' = r then v else Regs.get s.regs r'

/-- `q` is the register file of `s` but for the registers of the pair `p`, which hold the bytes of `v`. -/
def WrotePair (s : State) (q : Regs) (p : Pair) (v : Word) : Prop :=
  (Regs.get q (Pair.hi p)).toNat * 256 + (Regs.get q (Pair.lo p)).toNat = v.toNat ∧
    ∀ r, r ≠ Pair.hi p → r ≠ Pair.lo p → Regs.get q r = Regs.get s.regs r

/-- The effect on registers and SP of a write of a pair or SP (R25, first column). -/
def WroteRegPair (s : State) (q : Regs) (sp : Word) (p : RegPair) (v : Word) : Prop :=
  match p with
  | .pair p => WrotePair s q p v ∧ sp = s.sp
  | .sp => q = s.regs ∧ sp = v

/-- The function on the next state, if there is one. -/
def mapNext (g : State → State) : Result → Result
  | .next t => .next (g t)
  | .fault f => .fault f
  | .refused r => .refused r

/-- The condition of the 24 conditional instructions (R250, R138); none for every other. -/
def condition : Instr → Option Cond
  | .jnz _ | .cnz _ | .rnz => some .nz
  | .jz _ | .cz _ | .rz => some .z
  | .jnc _ | .cnc _ | .rnc => some .nc
  | .jc _ | .cc _ | .rc => some .c
  | .jpo _ | .cpo _ | .rpo => some .po
  | .jpe _ | .cpe _ | .rpe => some .pe
  | .jp _ | .cp _ | .rp => some .p
  | .jm _ | .cm _ | .rm => some .m
  | _ => none

/-- The condition of the instruction, if it has one, holds in `s`. -/
def taken (i : Instr) (s : State) : Bool :=
  match condition i with
  | some k => Cond.holds k s.flags
  | none => true

/-- Where a control-transfer instruction (R137) goes when it transfers; none for an instruction that is not one. -/
def target (s : State) : Instr → Option Word
  | .jmp a | .jnz a | .jz a | .jnc a | .jc a | .jpo a | .jpe a | .jp a | .jm a => some a
  | .call a | .cnz a | .cz a | .cnc a | .cc a | .cpo a | .cpe a | .cp a | .cm a => some a
  | .ret | .rnz | .rz | .rnc | .rc | .rpo | .rpe | .rp | .rm => some (read16 s s.sp)
  | .rst0 => some 0x0000 | .rst1 => some 0x0008 | .rst2 => some 0x0010 | .rst3 => some 0x0018
  | .rst4 => some 0x0020 | .rst5 => some 0x0028 | .rst6 => some 0x0030 | .rst7 => some 0x0038
  | .pchl => some (word16 s.regs.h s.regs.l)
  | _ => none

/-- The addresses an instruction stores to when run in `s`, in the order it stores. -/
def storesTo (s : State) : Instr → List Word
  | .movMB | .movMC | .movMD | .movME | .movMH | .movML | .movMA | .mviM _ | .inrM | .dcrM => [hl s]
  | .staxB => [word16 s.regs.b s.regs.c]
  | .staxD => [word16 s.regs.d s.regs.e]
  | .sta a => [a]
  | .shld a => [a, a + 1]
  | .pushB | .pushD | .pushH | .pushPsw => [s.sp - 1, s.sp - 2]
  | .call _ | .rst0 | .rst1 | .rst2 | .rst3 | .rst4 | .rst5 | .rst6 | .rst7 => [s.sp - 1, s.sp - 2]
  | .cnz a => if taken (.cnz a) s then [s.sp - 1, s.sp - 2] else []
  | .cz a => if taken (.cz a) s then [s.sp - 1, s.sp - 2] else []
  | .cnc a => if taken (.cnc a) s then [s.sp - 1, s.sp - 2] else []
  | .cc a => if taken (.cc a) s then [s.sp - 1, s.sp - 2] else []
  | .cpo a => if taken (.cpo a) s then [s.sp - 1, s.sp - 2] else []
  | .cpe a => if taken (.cpe a) s then [s.sp - 1, s.sp - 2] else []
  | .cp a => if taken (.cp a) s then [s.sp - 1, s.sp - 2] else []
  | .cm a => if taken (.cm a) s then [s.sp - 1, s.sp - 2] else []
  | .xthl => [s.sp, s.sp + 1]
  | _ => []

/-- Which flags an instruction may write. -/
inductive FlagWrites where
  | none
  | carryOnly
  | allButCarry
  | all
deriving DecidableEq, Repr

/-- The flag columns of R28: who writes which flags. -/
def flagWrites (i : Instr) : FlagWrites :=
  match i with
  | .dadB | .dadD | .dadH | .dadSp | .rlc | .rrc | .ral | .rar | .stc | .cmc => .carryOnly
  | .inrB | .inrC | .inrD | .inrE | .inrH | .inrL | .inrM | .inrA => .allButCarry
  | .dcrB | .dcrC | .dcrD | .dcrE | .dcrH | .dcrL | .dcrM | .dcrA => .allButCarry
  | .adi _ | .aci _ | .sui _ | .sbi _ | .ani _ | .xri _ | .ori _ | .cpi _ | .daa | .popPsw => .all
  | _ => if 0x80 ≤ (opcode i).toNat ∧ (opcode i).toNat < 0xC0 then .all else .none

/-- The instructions that write SP (R26): LXI SP, INX SP, DCX SP, SPHL, and every push and pop. -/
def writesSp (s : State) (i : Instr) : Bool :=
  match i with
  | .lxiSp _ | .inxSp | .dcxSp | .sphl => true
  | .pushB | .pushD | .pushH | .pushPsw | .popB | .popD | .popH | .popPsw => true
  | .call _ | .ret | .rst0 | .rst1 | .rst2 | .rst3 | .rst4 | .rst5 | .rst6 | .rst7 => true
  | .cnz _ | .cz _ | .cnc _ | .cc _ | .cpo _ | .cpe _ | .cp _ | .cm _ => taken i s
  | .rnz | .rz | .rnc | .rc | .rpo | .rpe | .rp | .rm => taken i s
  | _ => false

/-- Both digits of a byte are decimal. -/
def isBcd (v : Byte) : Prop := v.toNat / 16 < 10 ∧ v.toNat % 16 < 10

/-- The number a byte of two decimal digits stands for. -/
def bcdValue (v : Byte) : Nat := v.toNat / 16 * 10 + v.toNat % 16

end Sys2Proof.Claims

open Sys2Proof Sys2Proof.Machine Sys2Proof.Claims

/-! ### Encoding -/

/-- Decoding the encoding of a well-formed instruction gives it back, with every operand, and leaves what follows. -/
def Obligations.DecodeEncodeRoundTrip : Prop :=
  ∀ (i : Instr) (rest : List Byte), i.wellFormed = true → decode (encode i ++ rest) = .ok (i, rest)

/-- The other direction: what any three bytes decode to is well formed and encodes to as many of those bytes as the ROM
gives its opcode. No two byte strings share a meaning. -/
def Obligations.EncodeDecodeRoundTrip : Prop :=
  ∀ op b2 b3 : Byte, (decodeOp op b2 b3).wellFormed = true ∧
    encode (decodeOp op b2 b3) = [op, b2, b3].take (opLen op)

/-- From R72: the fields ddd, sss, aaa, rp, ccc and nnn, at their places, select the operand. The code tables R22, R25 and
R250 are written out in bits. -/
def Obligations.OpcodeFieldsSelectOperands : Prop :=
  ([Reg.b, .c, .d, .e, .h, .l, .a].map Reg.code = [0b000, 0b001, 0b010, 0b011, 0b100, 0b101, 0b111] ∧
    Operand.code .m = 0b110 ∧
    [RegPair.pair .bc, .pair .de, .pair .hl, .sp].map RegPair.code = [0b00, 0b01, 0b10, 0b11] ∧
    [AluOp.add, .adc, .sub, .sbb, .ana, .xra, .ora, .cmp].map AluOp.code =
      [0b000, 0b001, 0b010, 0b011, 0b100, 0b101, 0b110, 0b111] ∧
    [Cond.nz, .z, .nc, .c, .po, .pe, .p, .m].map Cond.code =
      [0b000, 0b001, 0b010, 0b011, 0b100, 0b101, 0b110, 0b111]) ∧
  ∀ b2 b3 : Byte,
    (∀ dst src : Reg, decodeOp (0b01#2 ++ dst.code ++ src.code) b2 b3 = Instr.mov dst src) ∧
    (∀ r : Reg, decodeOp (0b01#2 ++ r.code ++ 0b110#3) b2 b3 = Instr.movFromM r) ∧
    (∀ r : Reg, decodeOp (0b01#2 ++ 0b110#3 ++ r.code) b2 b3 = Instr.movToM r) ∧
    (∀ (k : AluOp) (o : Operand), decodeOp (0b10#2 ++ k.code ++ o.code) b2 b3 = Instr.aluOp k o) ∧
    (∀ k : AluOp, decodeOp (0b11#2 ++ k.code ++ 0b110#3) b2 b3 = Instr.aluImm k b2) ∧
    (∀ r : Reg, decodeOp (0b00#2 ++ r.code ++ 0b110#3) b2 b3 = Instr.mvi r b2 ∧
      decodeOp (0b00#2 ++ r.code ++ 0b100#3) b2 b3 = Instr.inr r ∧
      decodeOp (0b00#2 ++ r.code ++ 0b101#3) b2 b3 = Instr.dcr r) ∧
    (decodeOp 0b00110110 b2 b3 = .mviM b2 ∧ decodeOp 0b00110100 b2 b3 = .inrM ∧ decodeOp 0b00110101 b2 b3 = .dcrM) ∧
    (∀ p : RegPair, decodeOp (0b00#2 ++ p.code ++ 0b0001#4) b2 b3 = Instr.lxi p (b3 ++ b2) ∧
      decodeOp (0b00#2 ++ p.code ++ 0b0011#4) b2 b3 = Instr.inx p ∧
      decodeOp (0b00#2 ++ p.code ++ 0b1011#4) b2 b3 = Instr.dcx p ∧
      decodeOp (0b00#2 ++ p.code ++ 0b1001#4) b2 b3 = Instr.dad p) ∧
    (∀ p : IndexPair, decodeOp (0b000#3 ++ p.code ++ 0b1010#4) b2 b3 = Instr.ldax p ∧
      decodeOp (0b000#3 ++ p.code ++ 0b0010#4) b2 b3 = Instr.stax p) ∧
    (∀ p : Pair, decodeOp (0b11#2 ++ p.code ++ 0b0101#4) b2 b3 = Instr.push p ∧
      decodeOp (0b11#2 ++ p.code ++ 0b0001#4) b2 b3 = Instr.pop p) ∧
    (decodeOp 0b11110101 b2 b3 = .pushPsw ∧ decodeOp 0b11110001 b2 b3 = .popPsw) ∧
    (∀ k : Cond, decodeOp (0b11#2 ++ k.code ++ 0b010#3) b2 b3 = Instr.jcc k (b3 ++ b2) ∧
      decodeOp (0b11#2 ++ k.code ++ 0b100#3) b2 b3 = Instr.ccc k (b3 ++ b2) ∧
      decodeOp (0b11#2 ++ k.code ++ 0b000#3) b2 b3 = Instr.rcc k) ∧
    (∀ n : Fin 8, decodeOp (0b11#2 ++ BitVec.ofNat 3 n.val ++ 0b111#3) b2 b3 = Instr.rst n)

/-- Words written out bit by bit from the encoding lines of the instruction rules. -/
def Obligations.SpecWordsDecode : Prop :=
  DecodesTo [0b01000001] .movBC ∧ DecodesTo [0b01110110] .hlt ∧ DecodesTo [0b10001110] .adcM ∧
  DecodesTo [0b11100110, 0x0F] (.ani 0x0F) ∧ DecodesTo [0b00100001, 0x34, 0x12] (.lxiH 0x1234) ∧
  DecodesTo [0b00110010, 0xB3, 0x05] (.sta 0x05B3) ∧ DecodesTo [0b00110101] .dcrM ∧ DecodesTo [0b00011111] .rar ∧
  DecodesTo [0b11111010, 0x34, 0x12] (.jm 0x1234) ∧ DecodesTo [0b11001101, 0x00, 0x05] (.call 0x0500) ∧
  DecodesTo [0b11010111] .rst2 ∧ DecodesTo [0b11110101] .pushPsw ∧ DecodesTo [0b11011011, 0x10] (.inPort 0x10) ∧
  DecodesTo [0b11001011] (.invalid 0xCB)

/-- R79: every opcode byte is exactly one instruction form or the invalid outcome, whatever follows it; the invalid ones
are the 12 values of R78. -/
def Obligations.DecodingIsTotal : Prop :=
  ∀ op b2 b3 : Byte,
    (op ∈ [0x08, 0x10, 0x18, 0x20, 0x28, 0x30, 0x38, 0xCB, 0xD9, 0xDD, 0xED, 0xFD] → decodeOp op b2 b3 = .invalid op) ∧
    (op ∉ [0x08, 0x10, 0x18, 0x20, 0x28, 0x30, 0x38, 0xCB, 0xD9, 0xDD, 0xED, 0xFD] →
      opcode (decodeOp op b2 b3) = op ∧ (decodeOp op b2 b3).wellFormed = true ∧
        ∀ o, decodeOp op b2 b3 ≠ .invalid o)

/-! ### The step -/

/-- From R132 to R134, R141: a step of a core that is not halted runs the instruction its fetched bytes decode to, adding
nothing around it. -/
def Obligations.StepRunsTheInstructionAtPc : Prop :=
  ∀ (s : State) (i : Instr) (rest : List Byte), s.halted = false →
    decode [memRead s s.pc, memRead s (s.pc + 1), memRead s (s.pc + 2)] = .ok (i, rest) → step s = exec i s

/-- From R130, R131: exactly one of three outcomes. That a core with HALTED = 1, which the spec gives no step, answers the
fault `halted`, with no cycle count, is the model's choice (log 9). -/
def Obligations.StepHasThreeOutcomes : Prop :=
  ∀ s : State,
    (s.halted = true → step s = .fault .halted ∧ returnedCycles (step s) = none) ∧
    (s.halted = false → memRead s s.pc ∈ invalidOpcodes →
      step s = .fault (.invalidOpcode (memRead s s.pc) s.pc) ∧ returnedCycles (step s) = some 0) ∧
    (s.halted = false → memRead s s.pc ∉ invalidOpcodes →
      ∃ t, step s = .next t ∧ returnedCycles (step s) = some t.cycles ∧ 1 ≤ t.cycles)

/-- R330: a step whose opcode byte is one of the 12 invalid values, and no other step of a running core, raises
InvalidOpcode(op, pc) with cycle count 0, and no instruction raises any other exception: each of the 244 instructions
completes in every state. -/
def Obligations.OnlyInvalidOpcodesFault : Prop :=
  (∀ s : State, s.halted = false →
    (memRead s s.pc ∈ invalidOpcodes →
      step s = .fault (.invalidOpcode (memRead s s.pc) s.pc) ∧ returnedCycles (step s) = some 0) ∧
    (memRead s s.pc ∉ invalidOpcodes → ∃ t, step s = .next t)) ∧
  (∀ (op : Byte) (s : State), exec (.invalid op) s = .fault (.invalidOpcode op s.pc)) ∧
  ∀ (i : Instr) (s : State), (∀ op, i ≠ .invalid op) → ∃ t, exec i s = .next t

/-- R138: the cycle count is the base cost of the opcode, plus 6 for a conditional jump, call or return whose condition
holds; it is at least 1. -/
def Obligations.CycleCountIsBasePlusPenalty : Prop :=
  ∀ (i : Instr) (s t : State), exec i s = .next t →
    t.cycles = baseCycles (opcode i) + (if (condition i).isSome ∧ taken i s = true then 6 else 0) ∧ 1 ≤ t.cycles

/-- R136: an instruction that transfers control ends at its target; every other, and a conditional one whose
condition is false, at PC plus its length modulo 2^16. -/
def Obligations.FallThroughOrTransfer : Prop :=
  ∀ (i : Instr) (s t : State), exec i s = .next t →
    t.pc = if taken i s = true then (target s i).getD (s.pc + BitVec.ofNat 16 (encode i).length)
      else s.pc + BitVec.ofNat 16 (encode i).length

/-- Every step keeps memory in its canonical form. -/
def Obligations.StepKeepsMemoryCanonical : Prop :=
  ∀ s t : State, Canonical s → step s = .next t → Canonical t

/-- Memories in canonical form are the same data: two of one launch, when the same is known of every byte; two of launches
that name one byte for all they do not list, when they read alike at every address. -/
def Obligations.CanonicalMemoriesAreEqualWhenReadAlike : Prop :=
  ∀ m m' : Memory, Memory.wf m = true → Memory.wf m' = true → m.rest = m'.rest →
    ((∀ a, Memory.known m a = Memory.known m' a) → m = m') ∧
    ((∃ v, m.rest = some v) → (∀ a, Memory.read m a = Memory.read m' a) → m = m')

/-- R51, R52: a read gives the last byte written to its address and a write changes no other byte; Read16 and
Write16 (R54) are little-endian, the second byte's address wrapping. None of it depends on the form of the memory. -/
def Obligations.MemoryReadAfterWrite : Prop :=
  ∀ (s : State) (a : Word),
    (∀ (b : Word) (v : Byte), memRead (memWrite s a v) b = if b = a then v else memRead s b) ∧
    (∀ v : Byte, memWrite s a v = { s with mem := (memWrite s a v).mem }) ∧
    (read16 s a).toNat = (memRead s (a + 1)).toNat * 256 + (memRead s a).toNat ∧
    ∀ v : Word, write16 s a v = { s with mem := (write16 s a v).mem } ∧ read16 (write16 s a v) a = v ∧
      StoredWord s (write16 s a v).mem a (v.extractLsb' 8 8) (v.extractLsb' 0 8)

/-! ### Reset and the host -/

/-- R38: the reset state, and the flags byte it packs to. -/
def Obligations.ResetState : Prop :=
  (∀ r, Regs.get State.reset.regs r = 0) ∧ State.reset.sp = 0 ∧ State.reset.pc = 0 ∧
  State.reset.flags = { cy := false, ac := false, z := false, s := false, p := false } ∧
  packF State.reset.flags = 0x02 ∧ State.reset.inte = false ∧ State.reset.halted = false

/-- The invariant of `StepKeepsMemoryCanonical` holds at reset, after the bytes of any instruction are placed, and at the
first step of a launch whose memory meets it. From R371: that first state is the reset of whatever state has the launch's
memory, and reads each byte that memory knows; a byte that it does not know is free (log 1), in `State.reset` all. -/
def Obligations.ResetMemoryIsCanonical : Prop :=
  (Canonical State.reset ∧ (∀ nbits w : Nat, Canonical (State.reset.withFetchWord nbits w)) ∧
    ∀ m : Memory, Memory.wf m = true → Canonical (State.launch m)) ∧
  (∀ s : State, State.launch s.mem =
    { hostReset s with cycles := State.reset.cycles, portIn := State.reset.portIn, portOut := State.reset.portOut }) ∧
  (∀ (m : Memory) (a : Word), memRead (State.launch m) a = (Memory.known m a).getD (Config.initialByte a)) ∧
  ∀ a : Word, memRead State.reset a = Config.initialByte a

/-- From R370 to R372: the reset operation gives every register, flag and control boolean its reset value and leaves memory
alone, so that the next step runs the instruction at address 0x0000 of the memory as the host left it. That it keeps the outputs
already given is the model's choice (log 12). -/
def Obligations.ResetOperationEntersAtZero : Prop :=
  ∀ s : State,
    hostReset s = { s with regs := State.reset.regs, sp := 0, pc := 0, flags := State.reset.flags, inte := false,
                           halted := false } ∧
    step (hostReset s) = exec (decodeOp (memRead s 0x0000) (memRead s 0x0001) (memRead s 0x0002)) (hostReset s)

/-- From R341: an image that fits is in memory, byte for byte, and every other byte is as before; one that does not fit is
reported. -/
def Obligations.LoaderWritesTheImageOrFails : Prop :=
  ∀ (base : Nat) (image : List Byte) (s : State),
    (65536 < base + image.length → hostLoad base image s = none) ∧
    (base + image.length ≤ 65536 → ∃ t, hostLoad base image s = some t ∧ t = { s with mem := t.mem } ∧
      ∀ a : Word, memRead t a =
        if base ≤ a.toNat ∧ a.toNat < base + image.length then image.getD (a.toNat - base) 0 else memRead s a)

/-! ### Rules about all instructions -/

/-- R33: EI sets INTE, DI clears it, nothing else writes it, and nothing reads it. -/
def Obligations.InteIsWrittenByEiAndDiAndReadByNone : Prop :=
  (∀ (i : Instr) (s t : State), exec i s = .next t →
    t.inte = if i = .ei then true else if i = .di then false else s.inte) ∧
  ∀ (i : Instr) (s : State) (b : Bool),
    mapNext (fun t => { t with inte := false }) (exec i { s with inte := b }) =
      mapNext (fun t => { t with inte := false }) (exec i s)

/-- R34: HLT sets HALTED, reset clears it, no instruction clears it, and a state with HALTED = 1 has no next state. -/
def Obligations.HaltedIsSetByHltAndNeverCleared : Prop :=
  (∀ (i : Instr) (s t : State), exec i s = .next t → t.halted = (s.halted || decide (i = .hlt))) ∧
  (∀ s : State, (hostReset s).halted = false) ∧ ∀ s t : State, s.halted = true → step s ≠ .next t

/-- From R28: "No instruction reads AC except DAA and PUSH PSW". -/
def Obligations.AuxiliaryCarryIsReadByDaaAndPushPswOnly : Prop :=
  ∀ (i : Instr) (s : State) (b : Bool), i ≠ .daa → i ≠ .pushPsw →
    mapNext (fun t => { t with flags := { t.flags with ac := false } })
        (exec i { s with flags := { s.flags with ac := b } }) =
      mapNext (fun t => { t with flags := { t.flags with ac := false } }) (exec i s)

/-- From R28: which instructions write no flag, CY only, all but CY. -/
def Obligations.FlagsAreWrittenAsTheTableSays : Prop :=
  ∀ (i : Instr) (s t : State), exec i s = .next t →
    (flagWrites i = .none → t.flags = s.flags) ∧
    (flagWrites i = .carryOnly → t.flags = { s.flags with cy := t.flags.cy }) ∧
    (flagWrites i = .allButCarry → t.flags.cy = s.flags.cy)

/-- Every byte outside the addresses an instruction stores to reads as before: all of memory, for an instruction that
stores nothing. -/
def Obligations.MemoryFrame : Prop :=
  ∀ (i : Instr) (s t : State), exec i s = .next t → ∀ a, a ∉ storesTo s i → memRead t a = memRead s a

/-- From R26: the instructions that write SP, and no other. -/
def Obligations.StackPointerFrame : Prop :=
  ∀ (i : Instr) (s t : State), exec i s = .next t → writesSp s i = false → t.sp = s.sp

/-- From R309, R340: an IN writes the answer of one PortIn draw to A, a free byte (log 2), and no flag; an OUT makes one
PortOut call, recorded after the earlier ones; no other instruction touches the port interface. The draw counter is the
model's choice (log 2). -/
def Obligations.PortCallsAreMadeByInAndOutOnly : Prop :=
  (∀ (s : State) (p8 : Byte), DecodesTo [0b11011011, p8] (.inPort p8) ∧
    exec (.inPort p8) s = .next { s with regs := { s.regs with a := Config.portIn s.portIn p8 },
                                         portIn := s.portIn + 1, pc := s.pc + 2, cycles := 10 }) ∧
  ∀ (i : Instr) (s t : State), exec i s = .next t →
    (∀ p, i = .outPort p → t.portIn = s.portIn ∧ t.portOut = s.portOut ++ [{ port := p, value := s.regs.a }]) ∧
    ((∀ p, i ≠ .inPort p) → (∀ p, i ≠ .outPort p) → t.portIn = s.portIn ∧ t.portOut = s.portOut)

/-- From R63, R375: a byte stored into the next instruction is what the next step fetches. -/
def Obligations.StoreIsSeenByTheNextFetch : Prop :=
  ∀ (s t : State) (a : Word), s.halted = false → a = s.pc + 3 → exec (.sta a) s = .next t →
    step t = exec (decodeOp s.regs.a (memRead s (a + 1)) (memRead s (a + 2))) t

/-! ### Views of the state -/

/-- R29, R30, R31: the places of the flags in F, its fixed and reserved bits, and what unpacking discards. -/
def Obligations.FlagsBytePacking : Prop :=
  (∀ f : Flags, (packF f).toNat =
    f.s.toNat * 128 + f.z.toNat * 64 + f.ac.toNat * 16 + f.p.toNat * 4 + 2 + f.cy.toNat) ∧
  (∀ f : Flags, unpackF (packF f) = f) ∧
  (∀ b : Byte, unpackF b = { s := b.getLsbD 7, z := b.getLsbD 6, ac := b.getLsbD 4, p := b.getLsbD 2,
                             cy := b.getLsbD 0 }) ∧
  ∀ b : Byte, packF (unpackF b) = (b &&& 0xD7) ||| 0x02

/-- R23, R24: each register by its name, a pair as high * 256 + low; a pair written reads back, the other registers
unchanged. -/
def Obligations.RegistersAndPairsReadBack : Prop :=
  (∀ q : Regs, [Reg.b, .c, .d, .e, .h, .l, .a].map (Regs.get q) = [q.b, q.c, q.d, q.e, q.h, q.l, q.a]) ∧
  (∀ (q : Regs) (r r' : Reg) (v : Byte), Regs.get (Regs.set q r v) r' = if r' = r then v else Regs.get q r') ∧
  (∀ s : State, (getPair s .bc).toNat = s.regs.b.toNat * 256 + s.regs.c.toNat ∧
    (getPair s .de).toNat = s.regs.d.toNat * 256 + s.regs.e.toNat ∧
    (getPair s .hl).toNat = s.regs.h.toNat * 256 + s.regs.l.toNat) ∧
  ∀ (s : State) (p : Pair) (v : Word),
    getPair (setPair s p v) p = v ∧
    (∀ r, r ≠ Pair.hi p → r ≠ Pair.lo p → getReg (setPair s p v) r = getReg s r)

/-- R100, R101: SetZSP writes Z, S and P of the result and leaves CY and AC; parity is true for an even number of set bits. -/
def Obligations.ZeroSignParityRefresh : Prop :=
  ∀ (f : Flags) (v : Byte), parity v = evenParity v ∧ ZspOf (setZSP f v) v ∧
    (setZSP f v).cy = f.cy ∧ (setZSP f v).ac = f.ac

/-! ### Move family and halt -/

/-- R150 (the 49 instructions movBB to movAA). -/
def Obligations.MovRegisterToRegister : Prop :=
  ∀ (dst src : Reg) (s : State),
    DecodesTo [0b01#2 ++ dst.code ++ src.code] (Instr.mov dst src) ∧
    Runs (Instr.mov dst src) s (s.pc + 1) 5 fun q sp f m =>
      WroteReg s q dst (Regs.get s.regs src) ∧ sp = s.sp ∧ f = s.flags ∧ SameMemory s m

/-- R151, R152: MOV r,M reads the byte at the HL before the move, also for MOV H,M and MOV L,M; MOV M,r stores to it. -/
def Obligations.MovFromAndToMemory : Prop :=
  ∀ (r : Reg) (s : State),
    DecodesTo [0b01#2 ++ r.code ++ 0b110#3] (Instr.movFromM r) ∧ DecodesTo [0b01110#5 ++ r.code] (Instr.movToM r) ∧
    (Runs (Instr.movFromM r) s (s.pc + 1) 7 fun q sp f m =>
      WroteReg s q r (memRead s (hl s)) ∧ sp = s.sp ∧ f = s.flags ∧ SameMemory s m) ∧
    Runs (Instr.movToM r) s (s.pc + 1) 7 fun q sp f m =>
      q = s.regs ∧ sp = s.sp ∧ f = s.flags ∧ StoredByte s m (hl s) (Regs.get s.regs r)

/-- R153: HLT completes with HALTED = 1 and PC + 1; nothing else changes but the returned cycle count. -/
def Obligations.Halt : Prop :=
  ∀ s : State, DecodesTo [0b01110110] .hlt ∧
    exec .hlt s = .next { s with halted := true, pc := s.pc + 1, cycles := 7 }

/-! ### Accumulator operations -/

/-- R160, R161, R168, R169 with R102: ADD, ADC, ADI and ACI. -/
def Obligations.Additions : Prop :=
  ∀ s : State,
    let post := fun (y : Byte) (cin : Nat) (q : Regs) (sp : Word) (f : Flags) (m : Memory) =>
      q.a.toNat = (s.regs.a.toNat + y.toNat + cin) % 256 ∧ (∀ r, r ≠ .a → Regs.get q r = Regs.get s.regs r) ∧
      f.cy = decide (255 < s.regs.a.toNat + y.toNat + cin) ∧
      f.ac = decide (15 < s.regs.a.toNat % 16 + y.toNat % 16 + cin) ∧ ZspOf f q.a ∧ sp = s.sp ∧ SameMemory s m
    (∀ o : Operand, DecodesTo [0b10000#5 ++ o.code] (Instr.aluOp .add o) ∧
      DecodesTo [0b10001#5 ++ o.code] (Instr.aluOp .adc o) ∧
      Runs (Instr.aluOp .add o) s (s.pc + 1) (if o = .m then 7 else 4) (post (operandValue s o) 0) ∧
      Runs (Instr.aluOp .adc o) s (s.pc + 1) (if o = .m then 7 else 4) (post (operandValue s o) s.flags.cy.toNat)) ∧
    ∀ d8 : Byte, DecodesTo [0b11000110, d8] (.adi d8) ∧ DecodesTo [0b11001110, d8] (.aci d8) ∧
      Runs (.adi d8) s (s.pc + 2) 7 (post d8 0) ∧ Runs (.aci d8) s (s.pc + 2) 7 (post d8 s.flags.cy.toNat)

/-- R162, R163, R170, R171 with R103: SUB, SBB, SUI and SBI; CY and AC are borrows, AC with the
borrow-in in the nibble difference (D24). -/
def Obligations.Subtractions : Prop :=
  ∀ s : State,
    let post := fun (y : Byte) (bin : Nat) (q : Regs) (sp : Word) (f : Flags) (m : Memory) =>
      q.a.toNat = (s.regs.a.toNat + 512 - y.toNat - bin) % 256 ∧ (∀ r, r ≠ .a → Regs.get q r = Regs.get s.regs r) ∧
      f.cy = decide (s.regs.a.toNat < y.toNat + bin) ∧
      f.ac = decide (s.regs.a.toNat % 16 < y.toNat % 16 + bin) ∧ ZspOf f q.a ∧ sp = s.sp ∧ SameMemory s m
    (∀ o : Operand, DecodesTo [0b10010#5 ++ o.code] (Instr.aluOp .sub o) ∧
      DecodesTo [0b10011#5 ++ o.code] (Instr.aluOp .sbb o) ∧
      Runs (Instr.aluOp .sub o) s (s.pc + 1) (if o = .m then 7 else 4) (post (operandValue s o) 0) ∧
      Runs (Instr.aluOp .sbb o) s (s.pc + 1) (if o = .m then 7 else 4) (post (operandValue s o) s.flags.cy.toNat)) ∧
    ∀ d8 : Byte, DecodesTo [0b11010110, d8] (.sui d8) ∧ DecodesTo [0b11011110, d8] (.sbi d8) ∧
      Runs (.sui d8) s (s.pc + 2) 7 (post d8 0) ∧ Runs (.sbi d8) s (s.pc + 2) 7 (post d8 s.flags.cy.toNat)

/-- R164 to R166, R172 to R174 with R104 to R106: AND with its AC quirk, exclusive-OR and OR;
the immediate forms use the same helpers (D23). -/
def Obligations.LogicOperations : Prop :=
  ∀ s : State,
    let post := fun (v : Byte) (ac : Bool) (q : Regs) (sp : Word) (f : Flags) (m : Memory) =>
      q.a = v ∧ (∀ r, r ≠ .a → Regs.get q r = Regs.get s.regs r) ∧ f.cy = false ∧ f.ac = ac ∧ ZspOf f v ∧
      sp = s.sp ∧ SameMemory s m
    let andPost := fun (y : Byte) => post (s.regs.a &&& y) (s.regs.a.getLsbD 3 || y.getLsbD 3)
    let xorPost := fun (y : Byte) => post (s.regs.a ^^^ y) false
    let orPost := fun (y : Byte) => post (s.regs.a ||| y) false
    (∀ o : Operand, DecodesTo [0b10100#5 ++ o.code] (Instr.aluOp .ana o) ∧
      DecodesTo [0b10101#5 ++ o.code] (Instr.aluOp .xra o) ∧ DecodesTo [0b10110#5 ++ o.code] (Instr.aluOp .ora o) ∧
      Runs (Instr.aluOp .ana o) s (s.pc + 1) (if o = .m then 7 else 4) (andPost (operandValue s o)) ∧
      Runs (Instr.aluOp .xra o) s (s.pc + 1) (if o = .m then 7 else 4) (xorPost (operandValue s o)) ∧
      Runs (Instr.aluOp .ora o) s (s.pc + 1) (if o = .m then 7 else 4) (orPost (operandValue s o))) ∧
    ∀ d8 : Byte, DecodesTo [0b11100110, d8] (.ani d8) ∧ DecodesTo [0b11101110, d8] (.xri d8) ∧
      DecodesTo [0b11110110, d8] (.ori d8) ∧ Runs (.ani d8) s (s.pc + 2) 7 (andPost d8) ∧
      Runs (.xri d8) s (s.pc + 2) 7 (xorPost d8) ∧ Runs (.ori d8) s (s.pc + 2) 7 (orPost d8)

/-- R167, R175 with R107: CMP and CPI write the flags of A - y without borrow-in and nothing else, so that Z is A = y and
CY is A < y. -/
def Obligations.Comparisons : Prop :=
  ∀ s : State,
    let post := fun (y : Byte) (q : Regs) (sp : Word) (f : Flags) (m : Memory) =>
      q = s.regs ∧ f.z = decide (s.regs.a = y) ∧ f.cy = decide (s.regs.a.toNat < y.toNat) ∧
      f.ac = decide (s.regs.a.toNat % 16 < y.toNat % 16) ∧ ZspOf f (s.regs.a - y) ∧ sp = s.sp ∧ SameMemory s m
    (∀ o : Operand, DecodesTo [0b10111#5 ++ o.code] (Instr.aluOp .cmp o) ∧
      Runs (Instr.aluOp .cmp o) s (s.pc + 1) (if o = .m then 7 else 4) (post (operandValue s o))) ∧
    ∀ d8 : Byte, DecodesTo [0b11111110, d8] (.cpi d8) ∧ Runs (.cpi d8) s (s.pc + 2) 7 (post d8)

/-- R176 with R108, for whatever the two parameters are (log 5). -/
def Obligations.DecimalAdjust : Prop :=
  ∀ s : State,
    let lo := s.regs.a.toNat % 16
    let hi := s.regs.a.toNat / 16
    let lowpath := lo > 9 ∨ s.flags.ac = true
    let trig := if Config.daaHighTrigger = .path then lowpath else lo > 9
    let low := if lowpath then 6 else 0
    let corr := low + (if hi > 9 ∨ s.flags.cy = true ∨ (hi ≥ 9 ∧ trig) then 0x60 else 0)
    let sum := s.regs.a.toNat + corr
    DecodesTo [0b00100111] .daa ∧
    Runs .daa s (s.pc + 1) 4 fun q sp f m =>
      q.a.toNat = sum % 256 ∧ (∀ r, r ≠ .a → Regs.get q r = Regs.get s.regs r) ∧
      f.ac = decide (15 < lo + low) ∧
      (f.cy = true ↔ sum > 255 ∨ (Config.daaCarryRule = .sticky ∧ s.flags.cy = true)) ∧
      ZspOf f q.a ∧ sp = s.sp ∧ SameMemory s m

/-- D2, D3: the readings of the parameters differ only where spec/92_eei_decisions.md says. -/
def Obligations.DaaReadingsAgreeElsewhere : Prop :=
  ∀ (f : Flags) (a : Byte) (rule : Config.DaaCarryRule) (trigger : Config.DaaHighTrigger),
    (¬ (a.toNat / 16 = 9 ∧ a.toNat % 16 ≤ 9 ∧ f.ac = true ∧ f.cy = false) →
      aluDaa .path rule f a = aluDaa .loGt9 rule f a) ∧
    (¬ (f.cy = true ∧ (aluDaa trigger .carryOut f a).2.cy = false) →
      aluDaa trigger .carryOut f a = aluDaa trigger .sticky f a)

/-- From R108: under the readings lo_gt_9 and sticky, DAA after the addition of two decimal bytes gives the decimal sum,
with the hundreds in CY. -/
def Obligations.DaaGivesTheDecimalSum : Prop :=
  ∀ (f : Flags) (x y : Byte) (cin : Bool), isBcd x → isBcd y →
    let r := aluAdd f x y cin
    let d := aluDaa .loGt9 .sticky r.2 r.1
    isBcd d.1 ∧ bcdValue x + bcdValue y + cin.toNat = d.2.cy.toNat * 100 + bcdValue d.1

/-- R177, R178, R179: CMA writes A and no flag, STC and CMC write CY only. -/
def Obligations.ComplementAndCarry : Prop :=
  ∀ s : State,
    DecodesTo [0b00101111] .cma ∧ DecodesTo [0b00110111] .stc ∧ DecodesTo [0b00111111] .cmc ∧
    (∃ t, exec .cma s = .next t ∧ t = { s with regs := { s.regs with a := t.regs.a }, pc := s.pc + 1, cycles := 4 } ∧
      t.regs.a.toNat + s.regs.a.toNat = 255) ∧
    exec .stc s = .next { s with flags := { s.flags with cy := true }, pc := s.pc + 1, cycles := 4 } ∧
    exec .cmc s = .next { s with flags := { s.flags with cy := !s.flags.cy }, pc := s.pc + 1, cycles := 4 }

/-! ### Loads, stores and pairs -/

/-- R200, R201. -/
def Obligations.MoveImmediate : Prop :=
  ∀ (s : State) (d8 : Byte),
    (∀ r : Reg, DecodesTo [0b00#2 ++ r.code ++ 0b110#3, d8] (Instr.mvi r d8) ∧
      Runs (Instr.mvi r d8) s (s.pc + 2) 7 fun q sp f m =>
        WroteReg s q r d8 ∧ sp = s.sp ∧ f = s.flags ∧ SameMemory s m) ∧
    DecodesTo [0b00110110, d8] (.mviM d8) ∧
    Runs (.mviM d8) s (s.pc + 2) 10 fun q sp f m =>
      q = s.regs ∧ sp = s.sp ∧ f = s.flags ∧ StoredByte s m (hl s) d8

/-- R202: d16 is b3 ++ b2. -/
def Obligations.LoadPairImmediate : Prop :=
  ∀ (s : State) (p : RegPair) (b2 b3 : Byte),
    DecodesTo [0b00#2 ++ p.code ++ 0b0001#4, b2, b3] (Instr.lxi p (b3 ++ b2)) ∧
    Runs (Instr.lxi p (b3 ++ b2)) s (s.pc + 3) 10 fun q sp f m =>
      WroteRegPair s q sp p (b3 ++ b2) ∧ f = s.flags ∧ SameMemory s m

/-- R203, R204: modulo 2^16, no flag. -/
def Obligations.PairIncrementAndDecrement : Prop :=
  ∀ (s : State) (p : RegPair),
    DecodesTo [0b00#2 ++ p.code ++ 0b0011#4] (Instr.inx p) ∧ DecodesTo [0b00#2 ++ p.code ++ 0b1011#4] (Instr.dcx p) ∧
    Runs (Instr.inx p) s (s.pc + 1) 5 (fun q sp f m =>
      WroteRegPair s q sp p (BitVec.ofNat 16 ((getRegPair s p).toNat + 1)) ∧ f = s.flags ∧ SameMemory s m) ∧
    Runs (Instr.dcx p) s (s.pc + 1) 5 (fun q sp f m =>
      WroteRegPair s q sp p (BitVec.ofNat 16 ((getRegPair s p).toNat + 65535)) ∧ f = s.flags ∧ SameMemory s m)

/-- R205 with R111: HL takes the sum modulo 2^16, CY its carry; the other flags are unchanged. -/
def Obligations.PairAddition : Prop :=
  ∀ (s : State) (p : RegPair),
    let sum := (hl s).toNat + (getRegPair s p).toNat
    DecodesTo [0b00#2 ++ p.code ++ 0b1001#4] (Instr.dad p) ∧
    Runs (Instr.dad p) s (s.pc + 1) 10 fun q sp f m =>
      WrotePair s q .hl (BitVec.ofNat 16 sum) ∧ sp = s.sp ∧ f = { s.flags with cy := decide (65535 < sum) } ∧
      SameMemory s m

/-- R206, R207: LDAX and STAX with BC and DE. -/
def Obligations.IndirectLoadAndStore : Prop :=
  ∀ (s : State) (p : IndexPair),
    let a := match p with
      | .bc => word16 s.regs.b s.regs.c
      | .de => word16 s.regs.d s.regs.e
    DecodesTo [0b000#3 ++ p.code ++ 0b1010#4] (Instr.ldax p) ∧ DecodesTo [0b000#3 ++ p.code ++ 0b0010#4] (Instr.stax p) ∧
    Runs (Instr.ldax p) s (s.pc + 1) 7 (fun q sp f m =>
      WroteReg s q .a (memRead s a) ∧ sp = s.sp ∧ f = s.flags ∧ SameMemory s m) ∧
    Runs (Instr.stax p) s (s.pc + 1) 7 (fun q sp f m =>
      q = s.regs ∧ sp = s.sp ∧ f = s.flags ∧ StoredByte s m a s.regs.a)

/-- R208, R209: LDA and STA. -/
def Obligations.DirectLoadAndStore : Prop :=
  ∀ (s : State) (b2 b3 : Byte),
    let a := word16 b3 b2
    DecodesTo [0b00111010, b2, b3] (.lda a) ∧ DecodesTo [0b00110010, b2, b3] (.sta a) ∧
    Runs (.lda a) s (s.pc + 3) 13 (fun q sp f m =>
      WroteReg s q .a (memRead s a) ∧ sp = s.sp ∧ f = s.flags ∧ SameMemory s m) ∧
    Runs (.sta a) s (s.pc + 3) 13 (fun q sp f m =>
      q = s.regs ∧ sp = s.sp ∧ f = s.flags ∧ StoredByte s m a s.regs.a)

/-- R210, R211: LHLD and SHLD, L at a16 and H at a16 + 1 modulo 2^16 (the byte order of a16 is the spec's D7). -/
def Obligations.HlDirectLoadAndStore : Prop :=
  ∀ (s : State) (b2 b3 : Byte),
    let a := word16 b3 b2
    DecodesTo [0b00101010, b2, b3] (.lhld a) ∧ DecodesTo [0b00100010, b2, b3] (.shld a) ∧
    Runs (.lhld a) s (s.pc + 3) 16 (fun q sp f m =>
      q = { s.regs with h := memRead s (a + 1), l := memRead s a } ∧ sp = s.sp ∧ f = s.flags ∧ SameMemory s m) ∧
    Runs (.shld a) s (s.pc + 3) 16 (fun q sp f m =>
      q = s.regs ∧ sp = s.sp ∧ f = s.flags ∧ StoredWord s m a s.regs.h s.regs.l)

/-! ### Increment, decrement, rotate -/

/-- R230, R231 with R109: CY is unchanged. -/
def Obligations.Increments : Prop :=
  ∀ s : State,
    let flagsOf := fun (v : Byte) (f : Flags) =>
      f.cy = s.flags.cy ∧ f.ac = decide (v.toNat % 16 = 15) ∧ ZspOf f (BitVec.ofNat 8 (v.toNat + 1))
    (∀ r : Reg, DecodesTo [0b00#2 ++ r.code ++ 0b100#3] (Instr.inr r) ∧
      Runs (Instr.inr r) s (s.pc + 1) 5 fun q sp f m =>
        WroteReg s q r (BitVec.ofNat 8 ((Regs.get s.regs r).toNat + 1)) ∧ flagsOf (Regs.get s.regs r) f ∧ sp = s.sp ∧
        SameMemory s m) ∧
    DecodesTo [0b00110100] .inrM ∧
    Runs .inrM s (s.pc + 1) 10 fun q sp f m =>
      q = s.regs ∧ sp = s.sp ∧ flagsOf (memRead s (hl s)) f ∧
      StoredByte s m (hl s) (BitVec.ofNat 8 ((memRead s (hl s)).toNat + 1))

/-- R232, R233 with R110, for whichever form DCR_AC_RULE takes (log 4): CY is unchanged. -/
def Obligations.Decrements : Prop :=
  ∀ s : State,
    let flagsOf := fun (v : Byte) (f : Flags) =>
      f.cy = s.flags.cy ∧
      (Config.dcrAcRule = .borrow → f.ac = decide (v.toNat % 16 = 0)) ∧
      (Config.dcrAcRule = .nonborrow → f.ac = decide (v.toNat % 16 ≠ 0)) ∧ ZspOf f (BitVec.ofNat 8 (v.toNat + 255))
    (∀ r : Reg, DecodesTo [0b00#2 ++ r.code ++ 0b101#3] (Instr.dcr r) ∧
      Runs (Instr.dcr r) s (s.pc + 1) 5 fun q sp f m =>
        WroteReg s q r (BitVec.ofNat 8 ((Regs.get s.regs r).toNat + 255)) ∧ flagsOf (Regs.get s.regs r) f ∧
        sp = s.sp ∧ SameMemory s m) ∧
    DecodesTo [0b00110101] .dcrM ∧
    Runs .dcrM s (s.pc + 1) 10 fun q sp f m =>
      q = s.regs ∧ sp = s.sp ∧ flagsOf (memRead s (hl s)) f ∧
      StoredByte s m (hl s) (BitVec.ofNat 8 ((memRead s (hl s)).toNat + 255))

/-- R234 to R237: the four rotates, bit by bit; CY only. -/
def Obligations.Rotates : Prop :=
  ∀ s : State,
    let post := fun (bit : Nat → Bool) (c : Bool) (q : Regs) (sp : Word) (f : Flags) (m : Memory) =>
      (∀ k, k < 8 → q.a.getLsbD k = bit k) ∧ (∀ r, r ≠ .a → Regs.get q r = Regs.get s.regs r) ∧
      f = { s.flags with cy := c } ∧ sp = s.sp ∧ SameMemory s m
    DecodesTo [0b00000111] .rlc ∧ DecodesTo [0b00001111] .rrc ∧ DecodesTo [0b00010111] .ral ∧
    DecodesTo [0b00011111] .rar ∧
    Runs .rlc s (s.pc + 1) 4 (post (fun k => if k = 0 then s.regs.a.getLsbD 7 else s.regs.a.getLsbD (k - 1))
      (s.regs.a.getLsbD 7)) ∧
    Runs .rrc s (s.pc + 1) 4 (post (fun k => if k = 7 then s.regs.a.getLsbD 0 else s.regs.a.getLsbD (k + 1))
      (s.regs.a.getLsbD 0)) ∧
    Runs .ral s (s.pc + 1) 4 (post (fun k => if k = 0 then s.flags.cy else s.regs.a.getLsbD (k - 1))
      (s.regs.a.getLsbD 7)) ∧
    Runs .rar s (s.pc + 1) 4 (post (fun k => if k = 7 then s.flags.cy else s.regs.a.getLsbD (k + 1))
      (s.regs.a.getLsbD 0))

/-! ### Control transfer -/

/-- R251, R252 to R260, R282: JMP, the eight Jcc and PCHL change PC and the cycle count, nothing else. Also what each
condition of R250 reads. -/
def Obligations.Jumps : Prop :=
  (∀ f : Flags,
    (Cond.holds .nz f = true ↔ f.z = false) ∧ (Cond.holds .z f = true ↔ f.z = true) ∧
    (Cond.holds .nc f = true ↔ f.cy = false) ∧ (Cond.holds .c f = true ↔ f.cy = true) ∧
    (Cond.holds .po f = true ↔ f.p = false) ∧ (Cond.holds .pe f = true ↔ f.p = true) ∧
    (Cond.holds .p f = true ↔ f.s = false) ∧ (Cond.holds .m f = true ↔ f.s = true)) ∧
  ∀ (s : State) (b2 b3 : Byte),
    let a := word16 b3 b2
    DecodesTo [0b11000011, b2, b3] (.jmp a) ∧ exec (.jmp a) s = .next { s with pc := a, cycles := 10 } ∧
    (∀ k : Cond, DecodesTo [0b11#2 ++ k.code ++ 0b010#3, b2, b3] (Instr.jcc k a) ∧
      exec (Instr.jcc k a) s = .next (if Cond.holds k s.flags = true then { s with pc := a, cycles := 10 + 6 }
        else { s with pc := s.pc + 3, cycles := 10 })) ∧
    DecodesTo [0b11101001] .pchl ∧
    exec .pchl s = .next { s with pc := word16 s.regs.h s.regs.l, cycles := 5 }

/-- R261, R262 to R270: CALL and the eight Ccc push the address of the next instruction, high byte at SP - 1 and low byte
at SP - 2; one not taken leaves the stack alone. -/
def Obligations.Calls : Prop :=
  ∀ (s : State) (b2 b3 : Byte),
    let a := word16 b3 b2
    let pushed := fun (q : Regs) (sp : Word) (f : Flags) (m : Memory) =>
      q = s.regs ∧ sp = s.sp - 2 ∧ f = s.flags ∧
      StoredWord s m (s.sp - 2) ((s.pc + 3).extractLsb' 8 8) ((s.pc + 3).extractLsb' 0 8)
    DecodesTo [0b11001101, b2, b3] (.call a) ∧ Runs (.call a) s a 17 pushed ∧
    ∀ k : Cond, DecodesTo [0b11#2 ++ k.code ++ 0b100#3, b2, b3] (Instr.ccc k a) ∧
      (Cond.holds k s.flags = true → Runs (Instr.ccc k a) s a (11 + 6) pushed) ∧
      (Cond.holds k s.flags = false → exec (Instr.ccc k a) s = .next { s with pc := s.pc + 3, cycles := 11 })

/-- R271, R272 to R280: RET and the eight Rcc pop PC, low byte at SP and high byte at SP + 1; one not taken leaves the
stack alone. -/
def Obligations.Returns : Prop :=
  ∀ s : State,
    let a := word16 (memRead s (s.sp + 1)) (memRead s s.sp)
    DecodesTo [0b11001001] .ret ∧ exec .ret s = .next { s with pc := a, sp := s.sp + 2, cycles := 10 } ∧
    ∀ k : Cond, DecodesTo [0b11#2 ++ k.code ++ 0b000#3] (Instr.rcc k) ∧
      exec (Instr.rcc k) s = .next (if Cond.holds k s.flags = true
        then { s with pc := a, sp := s.sp + 2, cycles := 5 + 6 } else { s with pc := s.pc + 1, cycles := 5 })

/-- R281: RST n pushes PC + 1 and goes to n * 8. -/
def Obligations.Restart : Prop :=
  ∀ (s : State) (n : Fin 8),
    DecodesTo [0b11#2 ++ BitVec.ofNat 3 n.val ++ 0b111#3] (Instr.rst n) ∧
    Runs (Instr.rst n) s (BitVec.ofNat 16 (n.val * 8)) 11 fun q sp f m =>
      q = s.regs ∧ sp = s.sp - 2 ∧ f = s.flags ∧
      StoredWord s m (s.sp - 2) ((s.pc + 1).extractLsb' 8 8) ((s.pc + 1).extractLsb' 0 8)

/-- A CALL, a taken Ccc or an RST and then a RET give back the registers, flags and SP, with PC at the instruction after
the call. -/
def Obligations.CallThenReturn : Prop :=
  ∀ (s t : State) (i : Instr) (a : Word) (k : Cond) (n : Fin 8),
    (i = .call a ∨ (i = Instr.ccc k a ∧ Cond.holds k s.flags = true) ∨ i = Instr.rst n) → exec i s = .next t →
    ∃ u, exec .ret t = .next u ∧
      u = { s with pc := s.pc + BitVec.ofNat 16 (encode i).length, mem := t.mem, cycles := 10 }

/-! ### Stack, exchange, control and ports -/

/-- R300, R302: PUSH rp and POP rp. -/
def Obligations.PushAndPopPair : Prop :=
  ∀ (s : State) (p : Pair),
    DecodesTo [0b11#2 ++ p.code ++ 0b0101#4] (Instr.push p) ∧ DecodesTo [0b11#2 ++ p.code ++ 0b0001#4] (Instr.pop p) ∧
    Runs (Instr.push p) s (s.pc + 1) 11 (fun q sp f m =>
      q = s.regs ∧ sp = s.sp - 2 ∧ f = s.flags ∧
      StoredWord s m (s.sp - 2) (Regs.get s.regs (Pair.hi p)) (Regs.get s.regs (Pair.lo p))) ∧
    Runs (Instr.pop p) s (s.pc + 1) 10 (fun q sp f m =>
      Regs.get q (Pair.hi p) = memRead s (s.sp + 1) ∧ Regs.get q (Pair.lo p) = memRead s s.sp ∧
      (∀ r, r ≠ Pair.hi p → r ≠ Pair.lo p → Regs.get q r = Regs.get s.regs r) ∧
      sp = s.sp + 2 ∧ f = s.flags ∧ SameMemory s m)

/-- R301, R303: PUSH PSW and POP PSW. -/
def Obligations.PushAndPopPsw : Prop :=
  ∀ s : State,
    DecodesTo [0b11110101] .pushPsw ∧ DecodesTo [0b11110001] .popPsw ∧
    Runs .pushPsw s (s.pc + 1) 11 (fun q sp f m =>
      q = s.regs ∧ sp = s.sp - 2 ∧ f = s.flags ∧ StoredWord s m (s.sp - 2) s.regs.a (packF s.flags)) ∧
    Runs .popPsw s (s.pc + 1) 10 (fun q sp f m =>
      let b := memRead s s.sp
      q = { s.regs with a := memRead s (s.sp + 1) } ∧ sp = s.sp + 2 ∧ SameMemory s m ∧
      f = { s := b.getLsbD 7, z := b.getLsbD 6, ac := b.getLsbD 4, p := b.getLsbD 2, cy := b.getLsbD 0 })

/-- From R32 and R303: PUSH PSW and then POP PSW restores A and the five flags, and SP. -/
def Obligations.PushPswThenPopPswRestores : Prop :=
  ∀ s t : State, exec .pushPsw s = .next t →
    ∃ u, exec .popPsw { t with regs := { t.regs with a := 0 }, flags := State.reset.flags } = .next u ∧
      u.regs = s.regs ∧ u.flags = s.flags ∧ u.sp = s.sp

/-- R304, R305, R306: XTHL exchanges HL with the stack top, exactly, also where the stack top wraps; SPHL; XCHG. -/
def Obligations.ExchangesAndSphl : Prop :=
  ∀ s : State,
    DecodesTo [0b11100011] .xthl ∧ DecodesTo [0b11111001] .sphl ∧ DecodesTo [0b11101011] .xchg ∧
    (Runs .xthl s (s.pc + 1) 18 fun q sp f m =>
      q = { s.regs with h := memRead s (s.sp + 1), l := memRead s s.sp } ∧ sp = s.sp ∧ f = s.flags ∧
      StoredWord s m s.sp s.regs.h s.regs.l) ∧
    exec .sphl s = .next { s with sp := word16 s.regs.h s.regs.l, pc := s.pc + 1, cycles := 5 } ∧
    exec .xchg s = .next { s with regs := { s.regs with d := s.regs.h, e := s.regs.l, h := s.regs.d, l := s.regs.e },
                                  pc := s.pc + 1, cycles := 4 }

/-- R307, R308, R311: EI, DI and NOP change INTE, or nothing, beside PC and the cycle count. -/
def Obligations.InterruptEnableAndNop : Prop :=
  ∀ s : State,
    DecodesTo [0b11111011] .ei ∧ DecodesTo [0b11110011] .di ∧ DecodesTo [0b00000000] .nop ∧
    exec .ei s = .next { s with inte := true, pc := s.pc + 1, cycles := 4 } ∧
    exec .di s = .next { s with inte := false, pc := s.pc + 1, cycles := 4 } ∧
    exec .nop s = .next { s with pc := s.pc + 1, cycles := 4 }

/-- R310: OUT records the event PortOut(p8, A) and changes nothing else but PC and the returned cycle count. -/
def Obligations.PortOutput : Prop :=
  ∀ (s : State) (p8 : Byte),
    DecodesTo [0b11010011, p8] (.outPort p8) ∧
    exec (.outPort p8) s = .next { s with portOut := s.portOut ++ [{ port := p8, value := s.regs.a }],
                                          pc := s.pc + 2, cycles := 10 }
end

