-- ==== Sys2Proof/Laws/Flags.lean ====
section
/-! SUPPORT. What the flag helpers write and leave alone. -/

namespace Sys2Proof.Machine

@[simp] theorem setZSP_cy (f : Flags) (v : Byte) : (setZSP f v).cy = f.cy := rfl
@[simp] theorem setZSP_ac (f : Flags) (v : Byte) : (setZSP f v).ac = f.ac := rfl
@[simp] theorem setZSP_z (f : Flags) (v : Byte) : (setZSP f v).z = decide (v = 0) := rfl
@[simp] theorem setZSP_s (f : Flags) (v : Byte) : (setZSP f v).s = v.getLsbD 7 := rfl
@[simp] theorem setZSP_p (f : Flags) (v : Byte) : (setZSP f v).p = parity v := rfl

/-- INR leaves CY alone (R109). -/
@[simp] theorem aluInr_cy (f : Flags) (v : Byte) : (aluInr f v).2.cy = f.cy := rfl

/-- DCR leaves CY alone (R110). -/
@[simp] theorem aluDcr_cy (rule : Config.DcrAcRule) (f : Flags) (v : Byte) : (aluDcr rule f v).2.cy = f.cy := rfl

/-- DAD writes CY only (R111). -/
theorem aluAdd16_flags (f : Flags) (x y : Word) :
    (aluAdd16 f x y).2 = { f with cy := decide (x.toNat + y.toNat > 0xFFFF) } := rfl

/-- AluAdd does not read the flags it is given (R102). -/
theorem aluAdd_flags_irrelevant (f g : Flags) (x y : Byte) (cin : Bool) : aluAdd f x y cin = aluAdd g x y cin := rfl

/-- AluSub does not read the flags it is given (R103). -/
theorem aluSub_flags_irrelevant (f g : Flags) (x y : Byte) (bin : Bool) : aluSub f x y bin = aluSub g x y bin := rfl

/-- The third trigger of `aluDaa` is the one R108 writes: lowpath under `path`, low nibble > 9 otherwise. -/
theorem daa_trigger (trigger : Config.DaaHighTrigger) (a : Byte) (ac : Bool) :
    (decide (loNibble a > 9) || (ac && decide (trigger = .path))) =
      if trigger = .path then decide (loNibble a > 9) || ac else decide (loNibble a > 9) := by
  cases trigger <;> simp

/-- The new carry of `aluDaa` is the one R108 writes. -/
theorem daa_carry (rule : Config.DaaCarryRule) (out cy : Bool) :
    (out || (cy && decide (rule = .sticky))) = if rule = .carryOut then out else out || cy := by
  cases rule <;> simp

end Sys2Proof.Machine
end

