-- ==== Sys2Proof/Laws/Memory.lean ====
section
/-! SUPPORT. Memory: a read after a write, and that every write keeps the canonical form. -/

namespace Sys2Proof.Machine

/-! ### The list of cells -/

theorem Memory.find_erase_self (l : List Host.Cell) (a : Nat) : Memory.find (Memory.erase l a) a = none := by
  induction l with
  | nil => rfl
  | cons cell tail ih =>
    obtain ⟨k, v⟩ := cell
    by_cases h : k = a <;> simp [Memory.erase, Memory.find, h, ih]

theorem Memory.find_erase_other (l : List Host.Cell) {a b : Nat} (h : b ≠ a) :
    Memory.find (Memory.erase l a) b = Memory.find l b := by
  induction l with
  | nil => rfl
  | cons cell tail ih =>
    obtain ⟨k, v⟩ := cell
    by_cases hk : k = a
    · simpa [Memory.erase, Memory.find, hk, Ne.symm h] using ih
    · simp only [Memory.erase, hk, if_false, Memory.find, ih]

theorem Memory.find_insert_other (l : List Host.Cell) {a b : Nat} (v : Byte) (h : b ≠ a) :
    Memory.find (Memory.insert l a v) b = Memory.find l b := by
  induction l with
  | nil => simp [Memory.insert, Memory.find, Ne.symm h]
  | cons cell tail ih =>
    obtain ⟨k, w⟩ := cell
    by_cases hk : a < k
    · simp [Memory.insert, Memory.find, hk, Ne.symm h]
    · simp only [Memory.insert, hk, if_false, Memory.find, ih]

theorem Memory.find_insert_erase (l : List Host.Cell) (a : Nat) (v : Byte) :
    Memory.find (Memory.insert (Memory.erase l a) a v) a = some v := by
  induction l with
  | nil => simp [Memory.erase, Memory.insert, Memory.find]
  | cons cell tail ih =>
    obtain ⟨k, w⟩ := cell
    by_cases hk : k = a
    · simpa [Memory.erase, hk] using ih
    · by_cases hl : a < k <;> simp [Memory.erase, Memory.insert, Memory.find, hk, hl, ih]

/-! ### Reading -/

@[simp] theorem Memory.write_rest (m : Memory) (a : Word) (v : Byte) : (Memory.write m a v).rest = m.rest := rfl

/-- What is known of every byte after MemWrite, whatever the form of the memory. -/
theorem Memory.known_write (m : Memory) (a b : Word) (v : Byte) :
    Memory.known (Memory.write m a v) b = if b = a then some v else Memory.known m b := by
  unfold Memory.known Memory.write
  by_cases h : b = a
  · subst h
    by_cases hv : m.rest = some v <;> simp [hv, Memory.find_erase_self, Memory.find_insert_erase]
  · have hn : b.toNat ≠ a.toNat := fun e => h (BitVec.eq_of_toNat_eq e)
    by_cases hv : m.rest = some v <;>
      simp [hv, h, Memory.find_erase_other _ hn, Memory.find_insert_other _ _ hn]

/-- MemRead after MemWrite (R51, R52), whatever the form of the memory. -/
theorem Memory.read_write (m : Memory) (a b : Word) (v : Byte) :
    Memory.read (Memory.write m a v) b = if b = a then v else Memory.read m b := by
  unfold Memory.read
  rw [Memory.known_write]
  by_cases h : b = a <;> simp [h]

/-- Where a byte is known, it is what a read gives. -/
theorem Memory.read_of_known {m : Memory} {a : Word} {v : Byte} (h : Memory.known m a = some v) : Memory.read m a = v := by
  simp [Memory.read, h]

@[simp] theorem memRead_memWrite_same (s : State) (a : Word) (v : Byte) : memRead (memWrite s a v) a = v := by
  simp [memRead, memWrite, Memory.read_write]

theorem memRead_memWrite (s : State) (a b : Word) (v : Byte) :
    memRead (memWrite s a v) b = if b = a then v else memRead s b := by
  simp [memRead, memWrite, Memory.read_write]

/-! ### The canonical form -/

theorem Memory.erase_allAbove {l : List Host.Cell} {k : Nat} (a : Nat) (h : Memory.allAbove k l = true) :
    Memory.allAbove k (Memory.erase l a) = true := by
  induction l with
  | nil => rfl
  | cons cell tail ih =>
    obtain ⟨j, w⟩ := cell
    simp only [Memory.allAbove, List.all_cons, Bool.and_eq_true] at h ih
    by_cases hj : j = a
    · simpa [Memory.erase, hj, Memory.allAbove] using ih h.2
    · simp only [Memory.erase, hj, if_false, Memory.allAbove, List.all_cons, Bool.and_eq_true]
      exact ⟨h.1, ih h.2⟩

theorem Memory.insert_allAbove {l : List Host.Cell} {k a : Nat} (v : Byte) (h : Memory.allAbove k l = true)
    (hk : k < a) : Memory.allAbove k (Memory.insert l a v) = true := by
  induction l with
  | nil => simp [Memory.insert, Memory.allAbove, hk]
  | cons cell tail ih =>
    obtain ⟨j, w⟩ := cell
    simp only [Memory.allAbove, List.all_cons, Bool.and_eq_true, decide_eq_true_eq] at h ih
    by_cases hj : a < j <;>
      simp only [Memory.insert, hj, if_true, if_false, Memory.allAbove, List.all_cons, Bool.and_eq_true,
        decide_eq_true_eq]
    · exact ⟨hk, h.1, h.2⟩
    · exact ⟨h.1, ih h.2⟩

theorem Memory.allAbove_trans {l : List Host.Cell} {j k : Nat} (h : Memory.allAbove k l = true) (hjk : j < k) :
    Memory.allAbove j l = true := by
  simp only [Memory.allAbove, List.all_eq_true, decide_eq_true_eq] at h ⊢
  exact fun cell hc => lt_trans hjk (h cell hc)

theorem Memory.erase_cellsWf {r : Option Byte} {l : List Host.Cell} (a : Nat) (h : Memory.cellsWf r l = true) :
    Memory.cellsWf r (Memory.erase l a) = true := by
  induction l with
  | nil => rfl
  | cons cell tail ih =>
    obtain ⟨k, w⟩ := cell
    simp only [Memory.cellsWf, Bool.and_eq_true] at h
    by_cases hk : k = a
    · simpa [Memory.erase, hk] using ih h.2
    · simp only [Memory.erase, hk, if_false, Memory.cellsWf, Bool.and_eq_true]
      exact ⟨⟨h.1.1, Memory.erase_allAbove a h.1.2⟩, ih h.2⟩

theorem Memory.insert_erase_cellsWf {r : Option Byte} {l : List Host.Cell} {a : Nat} {v : Byte} (ha : a < 65536)
    (hv : r ≠ some v) (h : Memory.cellsWf r l = true) :
    Memory.cellsWf r (Memory.insert (Memory.erase l a) a v) = true := by
  induction l with
  | nil => simp [Memory.erase, Memory.insert, Memory.cellsWf, Memory.allAbove, ha, hv]
  | cons cell tail ih =>
    obtain ⟨k, w⟩ := cell
    have hw := h
    simp only [Memory.cellsWf, Bool.and_eq_true] at h
    by_cases hk : k = a
    · simpa [Memory.erase, hk] using ih h.2
    · by_cases hl : a < k
      · have he := Memory.erase_cellsWf a hw
        simp only [Memory.erase, hk, if_false] at he ⊢
        simp only [Memory.insert, hl, if_true, Memory.cellsWf, Bool.and_eq_true, decide_eq_true_eq] at he ⊢
        refine ⟨⟨⟨ha, hv⟩, ?_⟩, he⟩
        simpa [Memory.allAbove, hl] using Memory.allAbove_trans he.1.2 hl
      · have hka : k < a := by omega
        simp only [Memory.erase, hk, if_false, Memory.insert, hl, Memory.cellsWf, Bool.and_eq_true]
        exact ⟨⟨h.1.1, Memory.insert_allAbove v (Memory.erase_allAbove a h.1.2) hka⟩, ih h.2⟩

/-- MemWrite keeps the canonical form. -/
theorem Memory.write_wf {m : Memory} (a : Word) (v : Byte) (h : Memory.wf m = true) :
    Memory.wf (Memory.write m a v) = true := by
  unfold Memory.wf Memory.write at *
  by_cases hv : m.rest = some v
  · simpa only [hv, if_true] using Memory.erase_cellsWf a.toNat h
  · simpa only [hv, if_false] using Memory.insert_erase_cellsWf a.isLt hv h

theorem memWrite_wf {s : State} (a : Word) (v : Byte) (h : Memory.wf s.mem = true) :
    Memory.wf (memWrite s a v).mem = true := Memory.write_wf a v h

end Sys2Proof.Machine
end

