-- ==== Sys2Proof/Laws/State.lean ====
section
/-! SUPPORT. For each named update of the state, one lemma for each field it leaves alone and for each it writes. -/

namespace Sys2Proof.Machine

/-! ### memWrite -/

@[simp] theorem memWrite_regs (s : State) (a : Word) (v : Byte) : (memWrite s a v).regs = s.regs := rfl
@[simp] theorem memWrite_sp (s : State) (a : Word) (v : Byte) : (memWrite s a v).sp = s.sp := rfl
@[simp] theorem memWrite_pc (s : State) (a : Word) (v : Byte) : (memWrite s a v).pc = s.pc := rfl
@[simp] theorem memWrite_flags (s : State) (a : Word) (v : Byte) : (memWrite s a v).flags = s.flags := rfl
@[simp] theorem memWrite_inte (s : State) (a : Word) (v : Byte) : (memWrite s a v).inte = s.inte := rfl
@[simp] theorem memWrite_halted (s : State) (a : Word) (v : Byte) : (memWrite s a v).halted = s.halted := rfl
@[simp] theorem memWrite_cycles (s : State) (a : Word) (v : Byte) : (memWrite s a v).cycles = s.cycles := rfl
@[simp] theorem memWrite_portIn (s : State) (a : Word) (v : Byte) : (memWrite s a v).portIn = s.portIn := rfl
@[simp] theorem memWrite_portOut (s : State) (a : Word) (v : Byte) : (memWrite s a v).portOut = s.portOut := rfl

/-! ### write16 -/

@[simp] theorem write16_regs (s : State) (a : Word) (v : Word) : (write16 s a v).regs = s.regs := rfl
@[simp] theorem write16_sp (s : State) (a : Word) (v : Word) : (write16 s a v).sp = s.sp := rfl
@[simp] theorem write16_pc (s : State) (a : Word) (v : Word) : (write16 s a v).pc = s.pc := rfl
@[simp] theorem write16_flags (s : State) (a : Word) (v : Word) : (write16 s a v).flags = s.flags := rfl
@[simp] theorem write16_inte (s : State) (a : Word) (v : Word) : (write16 s a v).inte = s.inte := rfl
@[simp] theorem write16_halted (s : State) (a : Word) (v : Word) : (write16 s a v).halted = s.halted := rfl
@[simp] theorem write16_cycles (s : State) (a : Word) (v : Word) : (write16 s a v).cycles = s.cycles := rfl
@[simp] theorem write16_portIn (s : State) (a : Word) (v : Word) : (write16 s a v).portIn = s.portIn := rfl
@[simp] theorem write16_portOut (s : State) (a : Word) (v : Word) : (write16 s a v).portOut = s.portOut := rfl

/-! ### push16 -/

@[simp] theorem push16_regs (v : Word) (s : State) : (push16 v s).regs = s.regs := rfl
@[simp] theorem push16_pc (v : Word) (s : State) : (push16 v s).pc = s.pc := rfl
@[simp] theorem push16_flags (v : Word) (s : State) : (push16 v s).flags = s.flags := rfl
@[simp] theorem push16_inte (v : Word) (s : State) : (push16 v s).inte = s.inte := rfl
@[simp] theorem push16_halted (v : Word) (s : State) : (push16 v s).halted = s.halted := rfl
@[simp] theorem push16_cycles (v : Word) (s : State) : (push16 v s).cycles = s.cycles := rfl
@[simp] theorem push16_portIn (v : Word) (s : State) : (push16 v s).portIn = s.portIn := rfl
@[simp] theorem push16_portOut (v : Word) (s : State) : (push16 v s).portOut = s.portOut := rfl

/-! ### pop16 -/

@[simp] theorem pop16_regs (s : State) : (pop16 s).2.regs = s.regs := rfl
@[simp] theorem pop16_pc (s : State) : (pop16 s).2.pc = s.pc := rfl
@[simp] theorem pop16_flags (s : State) : (pop16 s).2.flags = s.flags := rfl
@[simp] theorem pop16_inte (s : State) : (pop16 s).2.inte = s.inte := rfl
@[simp] theorem pop16_halted (s : State) : (pop16 s).2.halted = s.halted := rfl
@[simp] theorem pop16_mem (s : State) : (pop16 s).2.mem = s.mem := rfl
@[simp] theorem pop16_cycles (s : State) : (pop16 s).2.cycles = s.cycles := rfl
@[simp] theorem pop16_portIn (s : State) : (pop16 s).2.portIn = s.portIn := rfl
@[simp] theorem pop16_portOut (s : State) : (pop16 s).2.portOut = s.portOut := rfl

/-! ### portRead -/

@[simp] theorem portRead_regs (p : Byte) (s : State) : (portRead p s).2.regs = s.regs := rfl
@[simp] theorem portRead_sp (p : Byte) (s : State) : (portRead p s).2.sp = s.sp := rfl
@[simp] theorem portRead_pc (p : Byte) (s : State) : (portRead p s).2.pc = s.pc := rfl
@[simp] theorem portRead_flags (p : Byte) (s : State) : (portRead p s).2.flags = s.flags := rfl
@[simp] theorem portRead_inte (p : Byte) (s : State) : (portRead p s).2.inte = s.inte := rfl
@[simp] theorem portRead_halted (p : Byte) (s : State) : (portRead p s).2.halted = s.halted := rfl
@[simp] theorem portRead_mem (p : Byte) (s : State) : (portRead p s).2.mem = s.mem := rfl
@[simp] theorem portRead_cycles (p : Byte) (s : State) : (portRead p s).2.cycles = s.cycles := rfl
@[simp] theorem portRead_portOut (p : Byte) (s : State) : (portRead p s).2.portOut = s.portOut := rfl

/-! ### portWrite -/

@[simp] theorem portWrite_regs (p v : Byte) (s : State) : (portWrite p v s).regs = s.regs := rfl
@[simp] theorem portWrite_sp (p v : Byte) (s : State) : (portWrite p v s).sp = s.sp := rfl
@[simp] theorem portWrite_pc (p v : Byte) (s : State) : (portWrite p v s).pc = s.pc := rfl
@[simp] theorem portWrite_flags (p v : Byte) (s : State) : (portWrite p v s).flags = s.flags := rfl
@[simp] theorem portWrite_inte (p v : Byte) (s : State) : (portWrite p v s).inte = s.inte := rfl
@[simp] theorem portWrite_halted (p v : Byte) (s : State) : (portWrite p v s).halted = s.halted := rfl
@[simp] theorem portWrite_mem (p v : Byte) (s : State) : (portWrite p v s).mem = s.mem := rfl
@[simp] theorem portWrite_cycles (p v : Byte) (s : State) : (portWrite p v s).cycles = s.cycles := rfl
@[simp] theorem portWrite_portIn (p v : Byte) (s : State) : (portWrite p v s).portIn = s.portIn := rfl

/-! ### setReg -/

@[simp] theorem setReg_sp (s : State) (r : Reg) (v : Byte) : (setReg s r v).sp = s.sp := rfl
@[simp] theorem setReg_pc (s : State) (r : Reg) (v : Byte) : (setReg s r v).pc = s.pc := rfl
@[simp] theorem setReg_flags (s : State) (r : Reg) (v : Byte) : (setReg s r v).flags = s.flags := rfl
@[simp] theorem setReg_inte (s : State) (r : Reg) (v : Byte) : (setReg s r v).inte = s.inte := rfl
@[simp] theorem setReg_halted (s : State) (r : Reg) (v : Byte) : (setReg s r v).halted = s.halted := rfl
@[simp] theorem setReg_mem (s : State) (r : Reg) (v : Byte) : (setReg s r v).mem = s.mem := rfl
@[simp] theorem setReg_cycles (s : State) (r : Reg) (v : Byte) : (setReg s r v).cycles = s.cycles := rfl
@[simp] theorem setReg_portIn (s : State) (r : Reg) (v : Byte) : (setReg s r v).portIn = s.portIn := rfl
@[simp] theorem setReg_portOut (s : State) (r : Reg) (v : Byte) : (setReg s r v).portOut = s.portOut := rfl

/-! ### setPair -/

@[simp] theorem setPair_sp (s : State) (q : Pair) (v : Word) : (setPair s q v).sp = s.sp := rfl
@[simp] theorem setPair_pc (s : State) (q : Pair) (v : Word) : (setPair s q v).pc = s.pc := rfl
@[simp] theorem setPair_flags (s : State) (q : Pair) (v : Word) : (setPair s q v).flags = s.flags := rfl
@[simp] theorem setPair_inte (s : State) (q : Pair) (v : Word) : (setPair s q v).inte = s.inte := rfl
@[simp] theorem setPair_halted (s : State) (q : Pair) (v : Word) : (setPair s q v).halted = s.halted := rfl
@[simp] theorem setPair_mem (s : State) (q : Pair) (v : Word) : (setPair s q v).mem = s.mem := rfl
@[simp] theorem setPair_cycles (s : State) (q : Pair) (v : Word) : (setPair s q v).cycles = s.cycles := rfl
@[simp] theorem setPair_portIn (s : State) (q : Pair) (v : Word) : (setPair s q v).portIn = s.portIn := rfl
@[simp] theorem setPair_portOut (s : State) (q : Pair) (v : Word) : (setPair s q v).portOut = s.portOut := rfl

/-! ### setRegPair -/

@[simp] theorem setRegPair_pc (s : State) (q : RegPair) (v : Word) : (setRegPair s q v).pc = s.pc := by cases q <;> rfl
@[simp] theorem setRegPair_flags (s : State) (q : RegPair) (v : Word) : (setRegPair s q v).flags = s.flags := by cases q <;> rfl
@[simp] theorem setRegPair_inte (s : State) (q : RegPair) (v : Word) : (setRegPair s q v).inte = s.inte := by cases q <;> rfl
@[simp] theorem setRegPair_halted (s : State) (q : RegPair) (v : Word) : (setRegPair s q v).halted = s.halted := by cases q <;> rfl
@[simp] theorem setRegPair_mem (s : State) (q : RegPair) (v : Word) : (setRegPair s q v).mem = s.mem := by cases q <;> rfl
@[simp] theorem setRegPair_cycles (s : State) (q : RegPair) (v : Word) : (setRegPair s q v).cycles = s.cycles := by cases q <;> rfl
@[simp] theorem setRegPair_portIn (s : State) (q : RegPair) (v : Word) : (setRegPair s q v).portIn = s.portIn := by cases q <;> rfl
@[simp] theorem setRegPair_portOut (s : State) (q : RegPair) (v : Word) : (setRegPair s q v).portOut = s.portOut := by cases q <;> rfl

/-! ### writeOperand -/

@[simp] theorem writeOperand_sp (s : State) (o : Operand) (v : Byte) : (writeOperand s o v).sp = s.sp := by cases o <;> rfl
@[simp] theorem writeOperand_pc (s : State) (o : Operand) (v : Byte) : (writeOperand s o v).pc = s.pc := by cases o <;> rfl
@[simp] theorem writeOperand_flags (s : State) (o : Operand) (v : Byte) : (writeOperand s o v).flags = s.flags := by cases o <;> rfl
@[simp] theorem writeOperand_inte (s : State) (o : Operand) (v : Byte) : (writeOperand s o v).inte = s.inte := by cases o <;> rfl
@[simp] theorem writeOperand_halted (s : State) (o : Operand) (v : Byte) : (writeOperand s o v).halted = s.halted := by cases o <;> rfl
@[simp] theorem writeOperand_cycles (s : State) (o : Operand) (v : Byte) : (writeOperand s o v).cycles = s.cycles := by cases o <;> rfl
@[simp] theorem writeOperand_portIn (s : State) (o : Operand) (v : Byte) : (writeOperand s o v).portIn = s.portIn := by cases o <;> rfl
@[simp] theorem writeOperand_portOut (s : State) (o : Operand) (v : Byte) : (writeOperand s o v).portOut = s.portOut := by cases o <;> rfl

/-! ### setAccumulator -/

@[simp] theorem setAccumulator_sp (s : State) (q : Byte × Flags) : (setAccumulator s q).sp = s.sp := rfl
@[simp] theorem setAccumulator_pc (s : State) (q : Byte × Flags) : (setAccumulator s q).pc = s.pc := rfl
@[simp] theorem setAccumulator_inte (s : State) (q : Byte × Flags) : (setAccumulator s q).inte = s.inte := rfl
@[simp] theorem setAccumulator_halted (s : State) (q : Byte × Flags) : (setAccumulator s q).halted = s.halted := rfl
@[simp] theorem setAccumulator_mem (s : State) (q : Byte × Flags) : (setAccumulator s q).mem = s.mem := rfl
@[simp] theorem setAccumulator_cycles (s : State) (q : Byte × Flags) : (setAccumulator s q).cycles = s.cycles := rfl
@[simp] theorem setAccumulator_portIn (s : State) (q : Byte × Flags) : (setAccumulator s q).portIn = s.portIn := rfl
@[simp] theorem setAccumulator_portOut (s : State) (q : Byte × Flags) : (setAccumulator s q).portOut = s.portOut := rfl

/-! ### aluEffect -/

@[simp] theorem aluEffect_sp (k : AluOp) (y : Byte) (s : State) : (aluEffect k y s).sp = s.sp := by cases k <;> rfl
@[simp] theorem aluEffect_pc (k : AluOp) (y : Byte) (s : State) : (aluEffect k y s).pc = s.pc := by cases k <;> rfl
@[simp] theorem aluEffect_inte (k : AluOp) (y : Byte) (s : State) : (aluEffect k y s).inte = s.inte := by cases k <;> rfl
@[simp] theorem aluEffect_halted (k : AluOp) (y : Byte) (s : State) : (aluEffect k y s).halted = s.halted := by cases k <;> rfl
@[simp] theorem aluEffect_mem (k : AluOp) (y : Byte) (s : State) : (aluEffect k y s).mem = s.mem := by cases k <;> rfl
@[simp] theorem aluEffect_cycles (k : AluOp) (y : Byte) (s : State) : (aluEffect k y s).cycles = s.cycles := by cases k <;> rfl
@[simp] theorem aluEffect_portIn (k : AluOp) (y : Byte) (s : State) : (aluEffect k y s).portIn = s.portIn := by cases k <;> rfl
@[simp] theorem aluEffect_portOut (k : AluOp) (y : Byte) (s : State) : (aluEffect k y s).portOut = s.portOut := by cases k <;> rfl

/-! ### setResult -/

@[simp] theorem setResult_sp (s : State) (o : Operand) (q : Byte × Flags) : (setResult s o q).sp = s.sp := by cases o <;> rfl
@[simp] theorem setResult_pc (s : State) (o : Operand) (q : Byte × Flags) : (setResult s o q).pc = s.pc := by cases o <;> rfl
@[simp] theorem setResult_inte (s : State) (o : Operand) (q : Byte × Flags) : (setResult s o q).inte = s.inte := by cases o <;> rfl
@[simp] theorem setResult_halted (s : State) (o : Operand) (q : Byte × Flags) : (setResult s o q).halted = s.halted := by cases o <;> rfl
@[simp] theorem setResult_cycles (s : State) (o : Operand) (q : Byte × Flags) : (setResult s o q).cycles = s.cycles := by cases o <;> rfl
@[simp] theorem setResult_portIn (s : State) (o : Operand) (q : Byte × Flags) : (setResult s o q).portIn = s.portIn := by cases o <;> rfl
@[simp] theorem setResult_portOut (s : State) (o : Operand) (q : Byte × Flags) : (setResult s o q).portOut = s.portOut := by cases o <;> rfl

/-! ### setRotated -/

@[simp] theorem setRotated_sp (s : State) (v : Byte) (c : Bool) : (setRotated s v c).sp = s.sp := rfl
@[simp] theorem setRotated_pc (s : State) (v : Byte) (c : Bool) : (setRotated s v c).pc = s.pc := rfl
@[simp] theorem setRotated_inte (s : State) (v : Byte) (c : Bool) : (setRotated s v c).inte = s.inte := rfl
@[simp] theorem setRotated_halted (s : State) (v : Byte) (c : Bool) : (setRotated s v c).halted = s.halted := rfl
@[simp] theorem setRotated_mem (s : State) (v : Byte) (c : Bool) : (setRotated s v c).mem = s.mem := rfl
@[simp] theorem setRotated_cycles (s : State) (v : Byte) (c : Bool) : (setRotated s v c).cycles = s.cycles := rfl
@[simp] theorem setRotated_portIn (s : State) (v : Byte) (c : Bool) : (setRotated s v c).portIn = s.portIn := rfl
@[simp] theorem setRotated_portOut (s : State) (v : Byte) (c : Bool) : (setRotated s v c).portOut = s.portOut := rfl

/-! ### What they write -/

@[simp] theorem memWrite_mem (s : State) (a : Word) (v : Byte) : (memWrite s a v).mem = Memory.write s.mem a v := rfl

@[simp] theorem push16_sp (v : Word) (s : State) : (push16 v s).sp = s.sp - 2 := by
  simp only [push16, memWrite]
  bv_omega

@[simp] theorem pop16_sp (s : State) : (pop16 s).2.sp = s.sp + 2 := by
  simp only [pop16]
  bv_omega

@[simp] theorem portRead_portIn (p : Byte) (s : State) : (portRead p s).2.portIn = s.portIn + 1 := rfl

@[simp] theorem portWrite_portOut (p v : Byte) (s : State) :
    (portWrite p v s).portOut = s.portOut ++ [{ port := p, value := v }] := rfl

@[simp] theorem setReg_regs (s : State) (r : Reg) (v : Byte) : (setReg s r v).regs = Regs.set s.regs r v := rfl

@[simp] theorem setAccumulator_flags (s : State) (q : Byte × Flags) : (setAccumulator s q).flags = q.2 := rfl

@[simp] theorem setAccumulator_regs (s : State) (q : Byte × Flags) :
    (setAccumulator s q).regs = { s.regs with a := q.1 } := rfl

@[simp] theorem setResult_flags (s : State) (o : Operand) (q : Byte × Flags) : (setResult s o q).flags = q.2 := rfl

@[simp] theorem setRotated_flags (s : State) (v : Byte) (c : Bool) :
    (setRotated s v c).flags = { s.flags with cy := c } := rfl

@[simp] theorem setRotated_regs (s : State) (v : Byte) (c : Bool) :
    (setRotated s v c).regs = { s.regs with a := v } := rfl

end Sys2Proof.Machine
end

