-- ==== Sys2Proof/Laws/Ops.lean ====
section
/-! SUPPORT. What the shared operations over bytes, words, stack, registers and the end of a step do, one lemma each. -/

namespace Sys2Proof

/-! ### Bytes of a word -/

theorem word16_toNat (hi lo : Byte) : (word16 hi lo).toNat = hi.toNat * 256 + lo.toNat := by
  have h := lo.isLt
  rw [word16, BitVec.toNat_append, ← Nat.shiftLeft_add_eq_or_of_lt h, Nat.shiftLeft_eq]

theorem hiByte_toNat (v : Word) : (hiByte v).toNat = v.toNat / 256 := by
  have h := v.isLt
  rw [hiByte, BitVec.extractLsb'_toNat, Nat.shiftRight_eq_div_pow]
  omega

theorem loByte_toNat (v : Word) : (loByte v).toNat = v.toNat % 256 := by
  simp [loByte, BitVec.extractLsb'_toNat]

@[simp] theorem hiByte_word16 (hi lo : Byte) : hiByte (word16 hi lo) = hi := by
  have h := lo.isLt
  apply BitVec.eq_of_toNat_eq
  rw [hiByte_toNat, word16_toNat]
  omega

@[simp] theorem loByte_word16 (hi lo : Byte) : loByte (word16 hi lo) = lo := by
  have h := lo.isLt
  apply BitVec.eq_of_toNat_eq
  rw [loByte_toNat, word16_toNat]
  omega

@[simp] theorem word16_hiByte_loByte (v : Word) : word16 (hiByte v) (loByte v) = v := by
  apply BitVec.eq_of_toNat_eq
  rw [word16_toNat, hiByte_toNat, loByte_toNat]
  omega

namespace Machine

/-! ### Two-byte accesses -/

theorem write16_mem (s : State) (a : Word) (v : Word) :
    (write16 s a v).mem = Memory.write (Memory.write s.mem a (loByte v)) (a + 1) (hiByte v) := rfl

/-- Write16 (R54): every byte after it. -/
theorem memRead_write16 (s : State) (a : Word) (v : Word) (b : Word) :
    memRead (write16 s a v) b = if b = a then loByte v else if b = a + 1 then hiByte v else memRead s b := by
  simp only [write16, memRead_memWrite]
  by_cases h : b = a <;> simp [h]

theorem write16_wf {s : State} (a : Word) (v : Word) (h : Memory.wf s.mem = true) :
    Memory.wf (write16 s a v).mem = true := memWrite_wf _ _ (memWrite_wf _ _ h)

/-! ### Stack -/

theorem push16_mem (v : Word) (s : State) :
    (push16 v s).mem = Memory.write (Memory.write s.mem (s.sp - 1) (hiByte v)) (s.sp - 1 - 1) (loByte v) := rfl

/-- Push16 (R55): every byte after it. -/
theorem memRead_push16 (v : Word) (s : State) (b : Word) :
    memRead (push16 v s) b =
      if b = s.sp - 2 then loByte v else if b = s.sp - 2 + 1 then hiByte v else memRead s b := by
  have h1 : s.sp - 1 - 1 = s.sp - 2 := by bv_omega
  have h2 : s.sp - 2 + 1 = s.sp - 1 := by bv_omega
  rw [h2]
  simp only [memRead, push16_mem, Memory.read_write, h1]

theorem push16_wf {s : State} (v : Word) (h : Memory.wf s.mem = true) : Memory.wf (push16 v s).mem = true :=
  Memory.write_wf _ _ (Memory.write_wf _ _ h)

/-- Pop16 (R56): the value is the word at SP, little-endian. -/
theorem pop16_value (s : State) : (pop16 s).1 = read16 s s.sp := rfl

theorem pop16_state (s : State) : (pop16 s).2 = { s with sp := s.sp + 2 } := by
  have h : s.sp + 1 + 1 = s.sp + 2 := by bv_omega
  exact congrArg (fun v => { s with sp := v }) h

/-- A pop gives back what was pushed. -/
theorem pop16_push16 (v : Word) (s : State) : (pop16 (push16 v s)).1 = v := by
  simp [pop16_value, read16, push16_sp, memRead_push16]

/-! ### Registers -/

@[simp] theorem Regs.get_set (q : Regs) (r r' : Reg) (v : Byte) :
    Regs.get (Regs.set q r v) r' = if r' = r then v else Regs.get q r' := by
  cases r <;> cases r' <;> rfl

@[simp] theorem getReg_setReg (s : State) (r r' : Reg) (v : Byte) :
    getReg (setReg s r v) r' = if r' = r then v else getReg s r' := Regs.get_set s.regs r r' v

theorem Pair.hi_ne_lo (p : Pair) : Pair.hi p ≠ Pair.lo p := by cases p <;> decide

/-- A pair written (R24): every register after it. -/
theorem getReg_setPair (s : State) (p : Pair) (v : Word) (r : Reg) :
    getReg (setPair s p v) r =
      if r = Pair.lo p then loByte v else if r = Pair.hi p then hiByte v else getReg s r := by
  simp [setPair]

theorem getPair_setPair (s : State) (p : Pair) (v : Word) : getPair (setPair s p v) p = v := by
  simp [getPair, getReg_setPair, Pair.hi_ne_lo]

/-! ### The end of a step -/

theorem fallThrough_next {op : Byte} {s t : State} (h : fallThrough op s = .next t) :
    t = { s with pc := nextPc op s, cycles := baseCycles op } := by
  simpa [fallThrough] using h.symm

theorem jumpTo_next {op : Byte} {a : Word} {s t : State} (h : jumpTo op a s = .next t) :
    t = { s with pc := a, cycles := baseCycles op } := by
  simpa [jumpTo] using h.symm

theorem jumpTaken_next {op : Byte} {a : Word} {s t : State} (h : jumpTaken op a s = .next t) :
    t = { s with pc := a, cycles := baseCycles op + takenPenalty } := by
  simpa [jumpTaken] using h.symm

end Machine

end Sys2Proof
end

