-- ==== Sys2Proof/Laws/Families.lean ====
section
/-! SUPPORT. What exec does with the instructions of one family, said once for each family map of Syntax.lean. -/

namespace Sys2Proof.Machine

/-! ### Conditional transfers -/

theorem exec_jcc (k : Cond) (a : Word) (s : State) : exec (Instr.jcc k a) s = jumpIf k a s := by cases k <;> rfl

theorem exec_ccc (k : Cond) (a : Word) (s : State) : exec (Instr.ccc k a) s = callIf k a s := by cases k <;> rfl

theorem exec_rcc (k : Cond) (s : State) : exec (Instr.rcc k) s = returnIf k s := by cases k <;> rfl

theorem jumpIf_eq (k : Cond) (a : Word) (s : State) :
    jumpIf k a s = if Cond.holds k s.flags then .next { s with pc := a, cycles := 16 }
      else .next { s with pc := s.pc + 3, cycles := 10 } := by
  cases k <;> rfl

theorem callIf_eq (k : Cond) (a : Word) (s : State) :
    callIf k a s = if Cond.holds k s.flags then .next { push16 (s.pc + 3) s with pc := a, cycles := 17 }
      else .next { s with pc := s.pc + 3, cycles := 11 } := by
  cases k <;> rfl

theorem returnIf_eq (k : Cond) (s : State) :
    returnIf k s = if Cond.holds k s.flags then .next { (pop16 s).2 with pc := (pop16 s).1, cycles := 11 }
      else .next { s with pc := s.pc + 1, cycles := 5 } := by
  cases k <;> rfl

/-! ### Other families -/

theorem exec_rst (n : Fin 8) (s : State) :
    exec (Instr.rst n) s = .next { push16 (s.pc + 1) s with pc := BitVec.ofNat 16 (n.val * 8), cycles := 11 } := by
  fin_cases n <;> rfl

theorem exec_aluOp (k : AluOp) (o : Operand) (s : State) :
    exec (Instr.aluOp k o) s =
      .next { aluEffect k (readOperand s o) s with pc := s.pc + 1, cycles := if o = .m then 7 else 4 } := by
  cases k <;> rcases o with ⟨⟨⟩⟩ | _ <;> rfl

theorem exec_aluImm (k : AluOp) (d8 : Byte) (s : State) :
    exec (Instr.aluImm k d8) s = .next { aluEffect k d8 s with pc := s.pc + 2, cycles := 7 } := by
  cases k <;> rfl

theorem exec_lxi (p : RegPair) (v : Word) (s : State) :
    exec (Instr.lxi p v) s = .next { setRegPair s p v with pc := s.pc + 3, cycles := 10 } := by
  rcases p with ⟨⟨⟩⟩ | _ <;> rfl

theorem exec_inx (p : RegPair) (s : State) :
    exec (Instr.inx p) s = .next { setRegPair s p (getRegPair s p + 1) with pc := s.pc + 1, cycles := 5 } := by
  rcases p with ⟨⟨⟩⟩ | _ <;> rfl

theorem exec_dcx (p : RegPair) (s : State) :
    exec (Instr.dcx p) s = .next { setRegPair s p (getRegPair s p - 1) with pc := s.pc + 1, cycles := 5 } := by
  rcases p with ⟨⟨⟩⟩ | _ <;> rfl

/-! ### An instruction is a conditional transfer or none -/

/-- The split that leaves the 24 conditional instructions as three families. -/
inductive Shape : Instr → Prop where
  | jcc (k : Cond) (a : Word) : Shape (Instr.jcc k a)
  | ccc (k : Cond) (a : Word) : Shape (Instr.ccc k a)
  | rcc (k : Cond) : Shape (Instr.rcc k)
  | other (i : Instr) (hj : ∀ k a, i ≠ Instr.jcc k a) (hc : ∀ k a, i ≠ Instr.ccc k a) (hr : ∀ k, i ≠ Instr.rcc k) : Shape i

theorem shape_of (i : Instr) : Shape i := by
  by_cases hj : ∃ k a, i = Instr.jcc k a
  · obtain ⟨k, a, rfl⟩ := hj; exact .jcc k a
  · by_cases hc : ∃ k a, i = Instr.ccc k a
    · obtain ⟨k, a, rfl⟩ := hc; exact .ccc k a
    · by_cases hr : ∃ k, i = Instr.rcc k
      · obtain ⟨k, rfl⟩ := hr; exact .rcc k
      · exact .other i (fun k a e => hj ⟨k, a, e⟩) (fun k a e => hc ⟨k, a, e⟩) (fun k e => hr ⟨k, e⟩)

end Sys2Proof.Machine
end

