-- ==== Sys2Proof/Laws/PerInstr.lean ====
section
/-! SUPPORT. A statement about every instruction as syntax, one lemma for each constructor of Instr. -/

namespace Sys2Proof.Laws.EncodedForm

/-- The encoding of a well-formed instruction is as long as the ROM says of its opcode (R70, R80), the opcode is its first
byte (R70, R71). -/
def Statement (i : Instr) : Prop :=
  i.wellFormed = true →
    (encode i).length = opLen (opcode i) ∧ (encode i).head? = some (opcode i)

/-- An instruction's statement from its opcode in the table, the number of its operand bytes and of all its bytes. -/
theorem statement_of {i : Instr} (op : Byte) (k n : Nat) (ho : opcode i = op) (h : (operandBytes i).length = k)
    (h' : opLen op = n) (hk : k + 1 = n) : Statement i := by
  intro _
  simp [encode, ho, h, h', hk]

theorem invalid_statement (op : Byte) : Statement (.invalid op) := by
  intro h
  have h' : op ∈ invalidOpcodes := by simpa [Instr.wellFormed, isInvalidOpcode] using h
  simp only [invalidOpcodes, List.mem_cons, List.not_mem_nil, or_false] at h'
  rcases h' with rfl | rfl | rfl | rfl | rfl | rfl | rfl | rfl | rfl | rfl | rfl | rfl <;>
    exact ⟨rfl, rfl⟩

theorem nop : Statement (.nop) := statement_of 0x00 0 1 rfl rfl rfl rfl
theorem lxiB (d16 : Word) : Statement (.lxiB d16) := statement_of 0x01 2 3 rfl rfl rfl rfl
theorem staxB : Statement (.staxB) := statement_of 0x02 0 1 rfl rfl rfl rfl
theorem inxB : Statement (.inxB) := statement_of 0x03 0 1 rfl rfl rfl rfl
theorem inrB : Statement (.inrB) := statement_of 0x04 0 1 rfl rfl rfl rfl
theorem dcrB : Statement (.dcrB) := statement_of 0x05 0 1 rfl rfl rfl rfl
theorem mviB (d8 : Byte) : Statement (.mviB d8) := statement_of 0x06 1 2 rfl rfl rfl rfl
theorem rlc : Statement (.rlc) := statement_of 0x07 0 1 rfl rfl rfl rfl
theorem invalid (op : Byte) : Statement (.invalid op) := invalid_statement op
theorem dadB : Statement (.dadB) := statement_of 0x09 0 1 rfl rfl rfl rfl
theorem ldaxB : Statement (.ldaxB) := statement_of 0x0A 0 1 rfl rfl rfl rfl
theorem dcxB : Statement (.dcxB) := statement_of 0x0B 0 1 rfl rfl rfl rfl
theorem inrC : Statement (.inrC) := statement_of 0x0C 0 1 rfl rfl rfl rfl
theorem dcrC : Statement (.dcrC) := statement_of 0x0D 0 1 rfl rfl rfl rfl
theorem mviC (d8 : Byte) : Statement (.mviC d8) := statement_of 0x0E 1 2 rfl rfl rfl rfl
theorem rrc : Statement (.rrc) := statement_of 0x0F 0 1 rfl rfl rfl rfl
theorem lxiD (d16 : Word) : Statement (.lxiD d16) := statement_of 0x11 2 3 rfl rfl rfl rfl
theorem staxD : Statement (.staxD) := statement_of 0x12 0 1 rfl rfl rfl rfl
theorem inxD : Statement (.inxD) := statement_of 0x13 0 1 rfl rfl rfl rfl
theorem inrD : Statement (.inrD) := statement_of 0x14 0 1 rfl rfl rfl rfl
theorem dcrD : Statement (.dcrD) := statement_of 0x15 0 1 rfl rfl rfl rfl
theorem mviD (d8 : Byte) : Statement (.mviD d8) := statement_of 0x16 1 2 rfl rfl rfl rfl
theorem ral : Statement (.ral) := statement_of 0x17 0 1 rfl rfl rfl rfl
theorem dadD : Statement (.dadD) := statement_of 0x19 0 1 rfl rfl rfl rfl
theorem ldaxD : Statement (.ldaxD) := statement_of 0x1A 0 1 rfl rfl rfl rfl
theorem dcxD : Statement (.dcxD) := statement_of 0x1B 0 1 rfl rfl rfl rfl
theorem inrE : Statement (.inrE) := statement_of 0x1C 0 1 rfl rfl rfl rfl
theorem dcrE : Statement (.dcrE) := statement_of 0x1D 0 1 rfl rfl rfl rfl
theorem mviE (d8 : Byte) : Statement (.mviE d8) := statement_of 0x1E 1 2 rfl rfl rfl rfl
theorem rar : Statement (.rar) := statement_of 0x1F 0 1 rfl rfl rfl rfl
theorem lxiH (d16 : Word) : Statement (.lxiH d16) := statement_of 0x21 2 3 rfl rfl rfl rfl
theorem shld (a16 : Word) : Statement (.shld a16) := statement_of 0x22 2 3 rfl rfl rfl rfl
theorem inxH : Statement (.inxH) := statement_of 0x23 0 1 rfl rfl rfl rfl
theorem inrH : Statement (.inrH) := statement_of 0x24 0 1 rfl rfl rfl rfl
theorem dcrH : Statement (.dcrH) := statement_of 0x25 0 1 rfl rfl rfl rfl
theorem mviH (d8 : Byte) : Statement (.mviH d8) := statement_of 0x26 1 2 rfl rfl rfl rfl
theorem daa : Statement (.daa) := statement_of 0x27 0 1 rfl rfl rfl rfl
theorem dadH : Statement (.dadH) := statement_of 0x29 0 1 rfl rfl rfl rfl
theorem lhld (a16 : Word) : Statement (.lhld a16) := statement_of 0x2A 2 3 rfl rfl rfl rfl
theorem dcxH : Statement (.dcxH) := statement_of 0x2B 0 1 rfl rfl rfl rfl
theorem inrL : Statement (.inrL) := statement_of 0x2C 0 1 rfl rfl rfl rfl
theorem dcrL : Statement (.dcrL) := statement_of 0x2D 0 1 rfl rfl rfl rfl
theorem mviL (d8 : Byte) : Statement (.mviL d8) := statement_of 0x2E 1 2 rfl rfl rfl rfl
theorem cma : Statement (.cma) := statement_of 0x2F 0 1 rfl rfl rfl rfl
theorem lxiSp (d16 : Word) : Statement (.lxiSp d16) := statement_of 0x31 2 3 rfl rfl rfl rfl
theorem sta (a16 : Word) : Statement (.sta a16) := statement_of 0x32 2 3 rfl rfl rfl rfl
theorem inxSp : Statement (.inxSp) := statement_of 0x33 0 1 rfl rfl rfl rfl
theorem inrM : Statement (.inrM) := statement_of 0x34 0 1 rfl rfl rfl rfl
theorem dcrM : Statement (.dcrM) := statement_of 0x35 0 1 rfl rfl rfl rfl
theorem mviM (d8 : Byte) : Statement (.mviM d8) := statement_of 0x36 1 2 rfl rfl rfl rfl
theorem stc : Statement (.stc) := statement_of 0x37 0 1 rfl rfl rfl rfl
theorem dadSp : Statement (.dadSp) := statement_of 0x39 0 1 rfl rfl rfl rfl
theorem lda (a16 : Word) : Statement (.lda a16) := statement_of 0x3A 2 3 rfl rfl rfl rfl
theorem dcxSp : Statement (.dcxSp) := statement_of 0x3B 0 1 rfl rfl rfl rfl
theorem inrA : Statement (.inrA) := statement_of 0x3C 0 1 rfl rfl rfl rfl
theorem dcrA : Statement (.dcrA) := statement_of 0x3D 0 1 rfl rfl rfl rfl
theorem mviA (d8 : Byte) : Statement (.mviA d8) := statement_of 0x3E 1 2 rfl rfl rfl rfl
theorem cmc : Statement (.cmc) := statement_of 0x3F 0 1 rfl rfl rfl rfl
theorem movBB : Statement (.movBB) := statement_of 0x40 0 1 rfl rfl rfl rfl
theorem movBC : Statement (.movBC) := statement_of 0x41 0 1 rfl rfl rfl rfl
theorem movBD : Statement (.movBD) := statement_of 0x42 0 1 rfl rfl rfl rfl
theorem movBE : Statement (.movBE) := statement_of 0x43 0 1 rfl rfl rfl rfl
theorem movBH : Statement (.movBH) := statement_of 0x44 0 1 rfl rfl rfl rfl
theorem movBL : Statement (.movBL) := statement_of 0x45 0 1 rfl rfl rfl rfl
theorem movBM : Statement (.movBM) := statement_of 0x46 0 1 rfl rfl rfl rfl
theorem movBA : Statement (.movBA) := statement_of 0x47 0 1 rfl rfl rfl rfl
theorem movCB : Statement (.movCB) := statement_of 0x48 0 1 rfl rfl rfl rfl
theorem movCC : Statement (.movCC) := statement_of 0x49 0 1 rfl rfl rfl rfl
theorem movCD : Statement (.movCD) := statement_of 0x4A 0 1 rfl rfl rfl rfl
theorem movCE : Statement (.movCE) := statement_of 0x4B 0 1 rfl rfl rfl rfl
theorem movCH : Statement (.movCH) := statement_of 0x4C 0 1 rfl rfl rfl rfl
theorem movCL : Statement (.movCL) := statement_of 0x4D 0 1 rfl rfl rfl rfl
theorem movCM : Statement (.movCM) := statement_of 0x4E 0 1 rfl rfl rfl rfl
theorem movCA : Statement (.movCA) := statement_of 0x4F 0 1 rfl rfl rfl rfl
theorem movDB : Statement (.movDB) := statement_of 0x50 0 1 rfl rfl rfl rfl
theorem movDC : Statement (.movDC) := statement_of 0x51 0 1 rfl rfl rfl rfl
theorem movDD : Statement (.movDD) := statement_of 0x52 0 1 rfl rfl rfl rfl
theorem movDE : Statement (.movDE) := statement_of 0x53 0 1 rfl rfl rfl rfl
theorem movDH : Statement (.movDH) := statement_of 0x54 0 1 rfl rfl rfl rfl
theorem movDL : Statement (.movDL) := statement_of 0x55 0 1 rfl rfl rfl rfl
theorem movDM : Statement (.movDM) := statement_of 0x56 0 1 rfl rfl rfl rfl
theorem movDA : Statement (.movDA) := statement_of 0x57 0 1 rfl rfl rfl rfl
theorem movEB : Statement (.movEB) := statement_of 0x58 0 1 rfl rfl rfl rfl
theorem movEC : Statement (.movEC) := statement_of 0x59 0 1 rfl rfl rfl rfl
theorem movED : Statement (.movED) := statement_of 0x5A 0 1 rfl rfl rfl rfl
theorem movEE : Statement (.movEE) := statement_of 0x5B 0 1 rfl rfl rfl rfl
theorem movEH : Statement (.movEH) := statement_of 0x5C 0 1 rfl rfl rfl rfl
theorem movEL : Statement (.movEL) := statement_of 0x5D 0 1 rfl rfl rfl rfl
theorem movEM : Statement (.movEM) := statement_of 0x5E 0 1 rfl rfl rfl rfl
theorem movEA : Statement (.movEA) := statement_of 0x5F 0 1 rfl rfl rfl rfl
theorem movHB : Statement (.movHB) := statement_of 0x60 0 1 rfl rfl rfl rfl
theorem movHC : Statement (.movHC) := statement_of 0x61 0 1 rfl rfl rfl rfl
theorem movHD : Statement (.movHD) := statement_of 0x62 0 1 rfl rfl rfl rfl
theorem movHE : Statement (.movHE) := statement_of 0x63 0 1 rfl rfl rfl rfl
theorem movHH : Statement (.movHH) := statement_of 0x64 0 1 rfl rfl rfl rfl
theorem movHL : Statement (.movHL) := statement_of 0x65 0 1 rfl rfl rfl rfl
theorem movHM : Statement (.movHM) := statement_of 0x66 0 1 rfl rfl rfl rfl
theorem movHA : Statement (.movHA) := statement_of 0x67 0 1 rfl rfl rfl rfl
theorem movLB : Statement (.movLB) := statement_of 0x68 0 1 rfl rfl rfl rfl
theorem movLC : Statement (.movLC) := statement_of 0x69 0 1 rfl rfl rfl rfl
theorem movLD : Statement (.movLD) := statement_of 0x6A 0 1 rfl rfl rfl rfl
theorem movLE : Statement (.movLE) := statement_of 0x6B 0 1 rfl rfl rfl rfl
theorem movLH : Statement (.movLH) := statement_of 0x6C 0 1 rfl rfl rfl rfl
theorem movLL : Statement (.movLL) := statement_of 0x6D 0 1 rfl rfl rfl rfl
theorem movLM : Statement (.movLM) := statement_of 0x6E 0 1 rfl rfl rfl rfl
theorem movLA : Statement (.movLA) := statement_of 0x6F 0 1 rfl rfl rfl rfl
theorem movMB : Statement (.movMB) := statement_of 0x70 0 1 rfl rfl rfl rfl
theorem movMC : Statement (.movMC) := statement_of 0x71 0 1 rfl rfl rfl rfl
theorem movMD : Statement (.movMD) := statement_of 0x72 0 1 rfl rfl rfl rfl
theorem movME : Statement (.movME) := statement_of 0x73 0 1 rfl rfl rfl rfl
theorem movMH : Statement (.movMH) := statement_of 0x74 0 1 rfl rfl rfl rfl
theorem movML : Statement (.movML) := statement_of 0x75 0 1 rfl rfl rfl rfl
theorem hlt : Statement (.hlt) := statement_of 0x76 0 1 rfl rfl rfl rfl
theorem movMA : Statement (.movMA) := statement_of 0x77 0 1 rfl rfl rfl rfl
theorem movAB : Statement (.movAB) := statement_of 0x78 0 1 rfl rfl rfl rfl
theorem movAC : Statement (.movAC) := statement_of 0x79 0 1 rfl rfl rfl rfl
theorem movAD : Statement (.movAD) := statement_of 0x7A 0 1 rfl rfl rfl rfl
theorem movAE : Statement (.movAE) := statement_of 0x7B 0 1 rfl rfl rfl rfl
theorem movAH : Statement (.movAH) := statement_of 0x7C 0 1 rfl rfl rfl rfl
theorem movAL : Statement (.movAL) := statement_of 0x7D 0 1 rfl rfl rfl rfl
theorem movAM : Statement (.movAM) := statement_of 0x7E 0 1 rfl rfl rfl rfl
theorem movAA : Statement (.movAA) := statement_of 0x7F 0 1 rfl rfl rfl rfl
theorem addB : Statement (.addB) := statement_of 0x80 0 1 rfl rfl rfl rfl
theorem addC : Statement (.addC) := statement_of 0x81 0 1 rfl rfl rfl rfl
theorem addD : Statement (.addD) := statement_of 0x82 0 1 rfl rfl rfl rfl
theorem addE : Statement (.addE) := statement_of 0x83 0 1 rfl rfl rfl rfl
theorem addH : Statement (.addH) := statement_of 0x84 0 1 rfl rfl rfl rfl
theorem addL : Statement (.addL) := statement_of 0x85 0 1 rfl rfl rfl rfl
theorem addM : Statement (.addM) := statement_of 0x86 0 1 rfl rfl rfl rfl
theorem addA : Statement (.addA) := statement_of 0x87 0 1 rfl rfl rfl rfl
theorem adcB : Statement (.adcB) := statement_of 0x88 0 1 rfl rfl rfl rfl
theorem adcC : Statement (.adcC) := statement_of 0x89 0 1 rfl rfl rfl rfl
theorem adcD : Statement (.adcD) := statement_of 0x8A 0 1 rfl rfl rfl rfl
theorem adcE : Statement (.adcE) := statement_of 0x8B 0 1 rfl rfl rfl rfl
theorem adcH : Statement (.adcH) := statement_of 0x8C 0 1 rfl rfl rfl rfl
theorem adcL : Statement (.adcL) := statement_of 0x8D 0 1 rfl rfl rfl rfl
theorem adcM : Statement (.adcM) := statement_of 0x8E 0 1 rfl rfl rfl rfl
theorem adcA : Statement (.adcA) := statement_of 0x8F 0 1 rfl rfl rfl rfl
theorem subB : Statement (.subB) := statement_of 0x90 0 1 rfl rfl rfl rfl
theorem subC : Statement (.subC) := statement_of 0x91 0 1 rfl rfl rfl rfl
theorem subD : Statement (.subD) := statement_of 0x92 0 1 rfl rfl rfl rfl
theorem subE : Statement (.subE) := statement_of 0x93 0 1 rfl rfl rfl rfl
theorem subH : Statement (.subH) := statement_of 0x94 0 1 rfl rfl rfl rfl
theorem subL : Statement (.subL) := statement_of 0x95 0 1 rfl rfl rfl rfl
theorem subM : Statement (.subM) := statement_of 0x96 0 1 rfl rfl rfl rfl
theorem subA : Statement (.subA) := statement_of 0x97 0 1 rfl rfl rfl rfl
theorem sbbB : Statement (.sbbB) := statement_of 0x98 0 1 rfl rfl rfl rfl
theorem sbbC : Statement (.sbbC) := statement_of 0x99 0 1 rfl rfl rfl rfl
theorem sbbD : Statement (.sbbD) := statement_of 0x9A 0 1 rfl rfl rfl rfl
theorem sbbE : Statement (.sbbE) := statement_of 0x9B 0 1 rfl rfl rfl rfl
theorem sbbH : Statement (.sbbH) := statement_of 0x9C 0 1 rfl rfl rfl rfl
theorem sbbL : Statement (.sbbL) := statement_of 0x9D 0 1 rfl rfl rfl rfl
theorem sbbM : Statement (.sbbM) := statement_of 0x9E 0 1 rfl rfl rfl rfl
theorem sbbA : Statement (.sbbA) := statement_of 0x9F 0 1 rfl rfl rfl rfl
theorem anaB : Statement (.anaB) := statement_of 0xA0 0 1 rfl rfl rfl rfl
theorem anaC : Statement (.anaC) := statement_of 0xA1 0 1 rfl rfl rfl rfl
theorem anaD : Statement (.anaD) := statement_of 0xA2 0 1 rfl rfl rfl rfl
theorem anaE : Statement (.anaE) := statement_of 0xA3 0 1 rfl rfl rfl rfl
theorem anaH : Statement (.anaH) := statement_of 0xA4 0 1 rfl rfl rfl rfl
theorem anaL : Statement (.anaL) := statement_of 0xA5 0 1 rfl rfl rfl rfl
theorem anaM : Statement (.anaM) := statement_of 0xA6 0 1 rfl rfl rfl rfl
theorem anaA : Statement (.anaA) := statement_of 0xA7 0 1 rfl rfl rfl rfl
theorem xraB : Statement (.xraB) := statement_of 0xA8 0 1 rfl rfl rfl rfl
theorem xraC : Statement (.xraC) := statement_of 0xA9 0 1 rfl rfl rfl rfl
theorem xraD : Statement (.xraD) := statement_of 0xAA 0 1 rfl rfl rfl rfl
theorem xraE : Statement (.xraE) := statement_of 0xAB 0 1 rfl rfl rfl rfl
theorem xraH : Statement (.xraH) := statement_of 0xAC 0 1 rfl rfl rfl rfl
theorem xraL : Statement (.xraL) := statement_of 0xAD 0 1 rfl rfl rfl rfl
theorem xraM : Statement (.xraM) := statement_of 0xAE 0 1 rfl rfl rfl rfl
theorem xraA : Statement (.xraA) := statement_of 0xAF 0 1 rfl rfl rfl rfl
theorem oraB : Statement (.oraB) := statement_of 0xB0 0 1 rfl rfl rfl rfl
theorem oraC : Statement (.oraC) := statement_of 0xB1 0 1 rfl rfl rfl rfl
theorem oraD : Statement (.oraD) := statement_of 0xB2 0 1 rfl rfl rfl rfl
theorem oraE : Statement (.oraE) := statement_of 0xB3 0 1 rfl rfl rfl rfl
theorem oraH : Statement (.oraH) := statement_of 0xB4 0 1 rfl rfl rfl rfl
theorem oraL : Statement (.oraL) := statement_of 0xB5 0 1 rfl rfl rfl rfl
theorem oraM : Statement (.oraM) := statement_of 0xB6 0 1 rfl rfl rfl rfl
theorem oraA : Statement (.oraA) := statement_of 0xB7 0 1 rfl rfl rfl rfl
theorem cmpB : Statement (.cmpB) := statement_of 0xB8 0 1 rfl rfl rfl rfl
theorem cmpC : Statement (.cmpC) := statement_of 0xB9 0 1 rfl rfl rfl rfl
theorem cmpD : Statement (.cmpD) := statement_of 0xBA 0 1 rfl rfl rfl rfl
theorem cmpE : Statement (.cmpE) := statement_of 0xBB 0 1 rfl rfl rfl rfl
theorem cmpH : Statement (.cmpH) := statement_of 0xBC 0 1 rfl rfl rfl rfl
theorem cmpL : Statement (.cmpL) := statement_of 0xBD 0 1 rfl rfl rfl rfl
theorem cmpM : Statement (.cmpM) := statement_of 0xBE 0 1 rfl rfl rfl rfl
theorem cmpA : Statement (.cmpA) := statement_of 0xBF 0 1 rfl rfl rfl rfl
theorem rnz : Statement (.rnz) := statement_of 0xC0 0 1 rfl rfl rfl rfl
theorem popB : Statement (.popB) := statement_of 0xC1 0 1 rfl rfl rfl rfl
theorem jnz (a16 : Word) : Statement (.jnz a16) := statement_of 0xC2 2 3 rfl rfl rfl rfl
theorem jmp (a16 : Word) : Statement (.jmp a16) := statement_of 0xC3 2 3 rfl rfl rfl rfl
theorem cnz (a16 : Word) : Statement (.cnz a16) := statement_of 0xC4 2 3 rfl rfl rfl rfl
theorem pushB : Statement (.pushB) := statement_of 0xC5 0 1 rfl rfl rfl rfl
theorem adi (d8 : Byte) : Statement (.adi d8) := statement_of 0xC6 1 2 rfl rfl rfl rfl
theorem rst0 : Statement (.rst0) := statement_of 0xC7 0 1 rfl rfl rfl rfl
theorem rz : Statement (.rz) := statement_of 0xC8 0 1 rfl rfl rfl rfl
theorem ret : Statement (.ret) := statement_of 0xC9 0 1 rfl rfl rfl rfl
theorem jz (a16 : Word) : Statement (.jz a16) := statement_of 0xCA 2 3 rfl rfl rfl rfl
theorem cz (a16 : Word) : Statement (.cz a16) := statement_of 0xCC 2 3 rfl rfl rfl rfl
theorem call (a16 : Word) : Statement (.call a16) := statement_of 0xCD 2 3 rfl rfl rfl rfl
theorem aci (d8 : Byte) : Statement (.aci d8) := statement_of 0xCE 1 2 rfl rfl rfl rfl
theorem rst1 : Statement (.rst1) := statement_of 0xCF 0 1 rfl rfl rfl rfl
theorem rnc : Statement (.rnc) := statement_of 0xD0 0 1 rfl rfl rfl rfl
theorem popD : Statement (.popD) := statement_of 0xD1 0 1 rfl rfl rfl rfl
theorem jnc (a16 : Word) : Statement (.jnc a16) := statement_of 0xD2 2 3 rfl rfl rfl rfl
theorem outPort (p8 : Byte) : Statement (.outPort p8) := statement_of 0xD3 1 2 rfl rfl rfl rfl
theorem cnc (a16 : Word) : Statement (.cnc a16) := statement_of 0xD4 2 3 rfl rfl rfl rfl
theorem pushD : Statement (.pushD) := statement_of 0xD5 0 1 rfl rfl rfl rfl
theorem sui (d8 : Byte) : Statement (.sui d8) := statement_of 0xD6 1 2 rfl rfl rfl rfl
theorem rst2 : Statement (.rst2) := statement_of 0xD7 0 1 rfl rfl rfl rfl
theorem rc : Statement (.rc) := statement_of 0xD8 0 1 rfl rfl rfl rfl
theorem jc (a16 : Word) : Statement (.jc a16) := statement_of 0xDA 2 3 rfl rfl rfl rfl
theorem inPort (p8 : Byte) : Statement (.inPort p8) := statement_of 0xDB 1 2 rfl rfl rfl rfl
theorem cc (a16 : Word) : Statement (.cc a16) := statement_of 0xDC 2 3 rfl rfl rfl rfl
theorem sbi (d8 : Byte) : Statement (.sbi d8) := statement_of 0xDE 1 2 rfl rfl rfl rfl
theorem rst3 : Statement (.rst3) := statement_of 0xDF 0 1 rfl rfl rfl rfl
theorem rpo : Statement (.rpo) := statement_of 0xE0 0 1 rfl rfl rfl rfl
theorem popH : Statement (.popH) := statement_of 0xE1 0 1 rfl rfl rfl rfl
theorem jpo (a16 : Word) : Statement (.jpo a16) := statement_of 0xE2 2 3 rfl rfl rfl rfl
theorem xthl : Statement (.xthl) := statement_of 0xE3 0 1 rfl rfl rfl rfl
theorem cpo (a16 : Word) : Statement (.cpo a16) := statement_of 0xE4 2 3 rfl rfl rfl rfl
theorem pushH : Statement (.pushH) := statement_of 0xE5 0 1 rfl rfl rfl rfl
theorem ani (d8 : Byte) : Statement (.ani d8) := statement_of 0xE6 1 2 rfl rfl rfl rfl
theorem rst4 : Statement (.rst4) := statement_of 0xE7 0 1 rfl rfl rfl rfl
theorem rpe : Statement (.rpe) := statement_of 0xE8 0 1 rfl rfl rfl rfl
theorem pchl : Statement (.pchl) := statement_of 0xE9 0 1 rfl rfl rfl rfl
theorem jpe (a16 : Word) : Statement (.jpe a16) := statement_of 0xEA 2 3 rfl rfl rfl rfl
theorem xchg : Statement (.xchg) := statement_of 0xEB 0 1 rfl rfl rfl rfl
theorem cpe (a16 : Word) : Statement (.cpe a16) := statement_of 0xEC 2 3 rfl rfl rfl rfl
theorem xri (d8 : Byte) : Statement (.xri d8) := statement_of 0xEE 1 2 rfl rfl rfl rfl
theorem rst5 : Statement (.rst5) := statement_of 0xEF 0 1 rfl rfl rfl rfl
theorem rp : Statement (.rp) := statement_of 0xF0 0 1 rfl rfl rfl rfl
theorem popPsw : Statement (.popPsw) := statement_of 0xF1 0 1 rfl rfl rfl rfl
theorem jp (a16 : Word) : Statement (.jp a16) := statement_of 0xF2 2 3 rfl rfl rfl rfl
theorem di : Statement (.di) := statement_of 0xF3 0 1 rfl rfl rfl rfl
theorem cp (a16 : Word) : Statement (.cp a16) := statement_of 0xF4 2 3 rfl rfl rfl rfl
theorem pushPsw : Statement (.pushPsw) := statement_of 0xF5 0 1 rfl rfl rfl rfl
theorem ori (d8 : Byte) : Statement (.ori d8) := statement_of 0xF6 1 2 rfl rfl rfl rfl
theorem rst6 : Statement (.rst6) := statement_of 0xF7 0 1 rfl rfl rfl rfl
theorem rm : Statement (.rm) := statement_of 0xF8 0 1 rfl rfl rfl rfl
theorem sphl : Statement (.sphl) := statement_of 0xF9 0 1 rfl rfl rfl rfl
theorem jm (a16 : Word) : Statement (.jm a16) := statement_of 0xFA 2 3 rfl rfl rfl rfl
theorem ei : Statement (.ei) := statement_of 0xFB 0 1 rfl rfl rfl rfl
theorem cm (a16 : Word) : Statement (.cm a16) := statement_of 0xFC 2 3 rfl rfl rfl rfl
theorem cpi (d8 : Byte) : Statement (.cpi d8) := statement_of 0xFE 1 2 rfl rfl rfl rfl
theorem rst7 : Statement (.rst7) := statement_of 0xFF 0 1 rfl rfl rfl rfl

end Sys2Proof.Laws.EncodedForm
end

