-- ==== Sys2Proof/Laws/Step.lean ====
section
/-! SUPPORT. What a step can do, said once, and that the host's operations keep memory canonical, and what a launch
holds. -/

namespace Sys2Proof.Machine

/-- A step answers a next state exactly when the core is not halted and the instruction at PC does. -/
theorem step_next_iff (s t : State) : step s = .next t ↔ s.halted = false ∧ exec (fetchInstr s) s = .next t := by
  cases h : s.halted <;> simp [step, stopBeforeFetch, h]

/-- A step of a running core is the rule of the instruction at PC. -/
theorem step_running {s : State} (h : s.halted = false) : step s = exec (fetchInstr s) s := by
  simp [step, stopBeforeFetch, h]

/-- A step asked of a halted core is the stuck state. -/
theorem step_halted {s : State} (h : s.halted = true) : step s = .fault .halted := by
  simp [step, stopBeforeFetch, h]

/-- No cycle count is given back for it. -/
theorem returnedCycles_halted {s : State} (h : s.halted = true) : returnedCycles (step s) = none := by
  rw [step_halted h]
  rfl

theorem placeBytes_wf (l : List Byte) : ∀ (s : State) (a : Word), Memory.wf s.mem = true →
    Memory.wf (placeBytes s a l).mem = true := by
  induction l with
  | nil => exact fun _ _ h => h
  | cons v rest ih => exact fun s a h => ih _ _ (memWrite_wf a v h)

theorem withFetchWord_wf {s : State} (nbits w : Nat) (h : Memory.wf s.mem = true) :
    Memory.wf (s.withFetchWord nbits w).mem = true := placeBytes_wf _ _ _ h

theorem hostWriteAll_wf (l : List Byte) : ∀ (s : State) (base : Nat), Memory.wf s.mem = true →
    Memory.wf (hostWriteAll s base l).mem = true := by
  induction l with
  | nil => exact fun _ _ h => h
  | cons v rest ih => exact fun s base h => ih _ _ (memWrite_wf _ v h)

/-! ### What a launch holds -/

@[simp] theorem launch_mem (m : Memory) : (State.launch m).mem = m := rfl

@[simp] theorem launch_regs (m : Memory) : (State.launch m).regs = State.reset.regs := rfl

@[simp] theorem launch_sp (m : Memory) : (State.launch m).sp = 0 := rfl

@[simp] theorem launch_pc (m : Memory) : (State.launch m).pc = 0 := rfl

@[simp] theorem launch_flags (m : Memory) : (State.launch m).flags = State.reset.flags := rfl

@[simp] theorem launch_inte (m : Memory) : (State.launch m).inte = false := rfl

@[simp] theorem launch_halted (m : Memory) : (State.launch m).halted = false := rfl

/-- A byte that the launch knows is what a read at its first step gives. -/
theorem memRead_launch {m : Memory} {a : Word} {v : Byte} (h : Memory.known m a = some v) :
    memRead (State.launch m) a = v := by
  simp [memRead, Memory.read, h]

end Sys2Proof.Machine
end

