-- ==== Sys2Proof/Tests/Slice0.lean ====
section
/-! SUPPORT. The author's tests: the well-formedness check, decoding of words written from the spec's encodings, single
steps with the results of spec/95_test_vectors.md, and a witness for the hypotheses of each obligation. -/

namespace Sys2Proof.Tests

open Sys2Proof.Machine Sys2Proof.Claims

/-! ### Helpers -/

/-- The vectors' start state: the given state, with the bytes at the program counter. -/
def start (bytes : List Byte) (s : State) : State := placeBytes s s.pc bytes

/-- A view of the next state, if there is one. -/
def seen {α : Type} (g : State → α) : Result → Option α
  | .next t => some (g t)
  | .fault _ => none
  | .refused _ => none

/-- The fault, if there is one. -/
def faultOf : Result → Option Fault
  | .next _ => none
  | .fault f => some f
  | .refused _ => none

/-- A memory that the launch fills: 0x00 at every address it does not list. -/
def zm (cells : List Host.Cell) : Memory := { cells := cells, rest := some 0 }

/-- The vectors' initial state (spec/95_test_vectors.md): reset, launched with all memory 0x00; its registers and flags. What
a vector does not list. -/
def z : State := State.launch (zm [])
def zr : Regs := State.reset.regs
def zf : Flags := State.reset.flags

/-! ### WellFormed: the one check refuses a term that breaks it (R78) -/

theorem test_wellFormed_refuses_invalid_of_a_defined_opcode : (Instr.invalid 0x00).wellFormed = false := by decide

theorem test_wellFormed_refuses_invalid_of_the_last_opcode : (Instr.invalid 0xFF).wellFormed = false := by decide

theorem test_wellFormed_accepts_the_invalid_opcodes :
    (invalidOpcodes.all fun op => (Instr.invalid op).wellFormed) = true := by decide

/-! ### Decoding: every opcode, in bits from the encoding column of spec/opcode_table.json, with bytes 2 and 3 = 0x34, 0x12 -/

theorem test_decode_row_0 :
    [0b00000000, 0b00000001, 0b00000010, 0b00000011, 0b00000100, 0b00000101, 0b00000110, 0b00000111,
     0b00001000, 0b00001001, 0b00001010, 0b00001011, 0b00001100, 0b00001101, 0b00001110, 0b00001111].map
      (fun op => decodeOp op 0x34 0x12) =
    [.nop, .lxiB 0x1234, .staxB, .inxB,
     .inrB, .dcrB, .mviB 0x34, .rlc,
     .invalid 0x08, .dadB, .ldaxB, .dcxB,
     .inrC, .dcrC, .mviC 0x34, .rrc] := by
  decide

theorem test_decode_row_1 :
    [0b00010000, 0b00010001, 0b00010010, 0b00010011, 0b00010100, 0b00010101, 0b00010110, 0b00010111,
     0b00011000, 0b00011001, 0b00011010, 0b00011011, 0b00011100, 0b00011101, 0b00011110, 0b00011111].map
      (fun op => decodeOp op 0x34 0x12) =
    [.invalid 0x10, .lxiD 0x1234, .staxD, .inxD,
     .inrD, .dcrD, .mviD 0x34, .ral,
     .invalid 0x18, .dadD, .ldaxD, .dcxD,
     .inrE, .dcrE, .mviE 0x34, .rar] := by
  decide

theorem test_decode_row_2 :
    [0b00100000, 0b00100001, 0b00100010, 0b00100011, 0b00100100, 0b00100101, 0b00100110, 0b00100111,
     0b00101000, 0b00101001, 0b00101010, 0b00101011, 0b00101100, 0b00101101, 0b00101110, 0b00101111].map
      (fun op => decodeOp op 0x34 0x12) =
    [.invalid 0x20, .lxiH 0x1234, .shld 0x1234, .inxH,
     .inrH, .dcrH, .mviH 0x34, .daa,
     .invalid 0x28, .dadH, .lhld 0x1234, .dcxH,
     .inrL, .dcrL, .mviL 0x34, .cma] := by
  decide

theorem test_decode_row_3 :
    [0b00110000, 0b00110001, 0b00110010, 0b00110011, 0b00110100, 0b00110101, 0b00110110, 0b00110111,
     0b00111000, 0b00111001, 0b00111010, 0b00111011, 0b00111100, 0b00111101, 0b00111110, 0b00111111].map
      (fun op => decodeOp op 0x34 0x12) =
    [.invalid 0x30, .lxiSp 0x1234, .sta 0x1234, .inxSp,
     .inrM, .dcrM, .mviM 0x34, .stc,
     .invalid 0x38, .dadSp, .lda 0x1234, .dcxSp,
     .inrA, .dcrA, .mviA 0x34, .cmc] := by
  decide

theorem test_decode_row_4 :
    [0b01000000, 0b01000001, 0b01000010, 0b01000011, 0b01000100, 0b01000101, 0b01000110, 0b01000111,
     0b01001000, 0b01001001, 0b01001010, 0b01001011, 0b01001100, 0b01001101, 0b01001110, 0b01001111].map
      (fun op => decodeOp op 0x34 0x12) =
    [.movBB, .movBC, .movBD, .movBE,
     .movBH, .movBL, .movBM, .movBA,
     .movCB, .movCC, .movCD, .movCE,
     .movCH, .movCL, .movCM, .movCA] := by
  decide

theorem test_decode_row_5 :
    [0b01010000, 0b01010001, 0b01010010, 0b01010011, 0b01010100, 0b01010101, 0b01010110, 0b01010111,
     0b01011000, 0b01011001, 0b01011010, 0b01011011, 0b01011100, 0b01011101, 0b01011110, 0b01011111].map
      (fun op => decodeOp op 0x34 0x12) =
    [.movDB, .movDC, .movDD, .movDE,
     .movDH, .movDL, .movDM, .movDA,
     .movEB, .movEC, .movED, .movEE,
     .movEH, .movEL, .movEM, .movEA] := by
  decide

theorem test_decode_row_6 :
    [0b01100000, 0b01100001, 0b01100010, 0b01100011, 0b01100100, 0b01100101, 0b01100110, 0b01100111,
     0b01101000, 0b01101001, 0b01101010, 0b01101011, 0b01101100, 0b01101101, 0b01101110, 0b01101111].map
      (fun op => decodeOp op 0x34 0x12) =
    [.movHB, .movHC, .movHD, .movHE,
     .movHH, .movHL, .movHM, .movHA,
     .movLB, .movLC, .movLD, .movLE,
     .movLH, .movLL, .movLM, .movLA] := by
  decide

theorem test_decode_row_7 :
    [0b01110000, 0b01110001, 0b01110010, 0b01110011, 0b01110100, 0b01110101, 0b01110110, 0b01110111,
     0b01111000, 0b01111001, 0b01111010, 0b01111011, 0b01111100, 0b01111101, 0b01111110, 0b01111111].map
      (fun op => decodeOp op 0x34 0x12) =
    [.movMB, .movMC, .movMD, .movME,
     .movMH, .movML, .hlt, .movMA,
     .movAB, .movAC, .movAD, .movAE,
     .movAH, .movAL, .movAM, .movAA] := by
  decide

theorem test_decode_row_8 :
    [0b10000000, 0b10000001, 0b10000010, 0b10000011, 0b10000100, 0b10000101, 0b10000110, 0b10000111,
     0b10001000, 0b10001001, 0b10001010, 0b10001011, 0b10001100, 0b10001101, 0b10001110, 0b10001111].map
      (fun op => decodeOp op 0x34 0x12) =
    [.addB, .addC, .addD, .addE,
     .addH, .addL, .addM, .addA,
     .adcB, .adcC, .adcD, .adcE,
     .adcH, .adcL, .adcM, .adcA] := by
  decide

theorem test_decode_row_9 :
    [0b10010000, 0b10010001, 0b10010010, 0b10010011, 0b10010100, 0b10010101, 0b10010110, 0b10010111,
     0b10011000, 0b10011001, 0b10011010, 0b10011011, 0b10011100, 0b10011101, 0b10011110, 0b10011111].map
      (fun op => decodeOp op 0x34 0x12) =
    [.subB, .subC, .subD, .subE,
     .subH, .subL, .subM, .subA,
     .sbbB, .sbbC, .sbbD, .sbbE,
     .sbbH, .sbbL, .sbbM, .sbbA] := by
  decide

theorem test_decode_row_A :
    [0b10100000, 0b10100001, 0b10100010, 0b10100011, 0b10100100, 0b10100101, 0b10100110, 0b10100111,
     0b10101000, 0b10101001, 0b10101010, 0b10101011, 0b10101100, 0b10101101, 0b10101110, 0b10101111].map
      (fun op => decodeOp op 0x34 0x12) =
    [.anaB, .anaC, .anaD, .anaE,
     .anaH, .anaL, .anaM, .anaA,
     .xraB, .xraC, .xraD, .xraE,
     .xraH, .xraL, .xraM, .xraA] := by
  decide

theorem test_decode_row_B :
    [0b10110000, 0b10110001, 0b10110010, 0b10110011, 0b10110100, 0b10110101, 0b10110110, 0b10110111,
     0b10111000, 0b10111001, 0b10111010, 0b10111011, 0b10111100, 0b10111101, 0b10111110, 0b10111111].map
      (fun op => decodeOp op 0x34 0x12) =
    [.oraB, .oraC, .oraD, .oraE,
     .oraH, .oraL, .oraM, .oraA,
     .cmpB, .cmpC, .cmpD, .cmpE,
     .cmpH, .cmpL, .cmpM, .cmpA] := by
  decide

theorem test_decode_row_C :
    [0b11000000, 0b11000001, 0b11000010, 0b11000011, 0b11000100, 0b11000101, 0b11000110, 0b11000111,
     0b11001000, 0b11001001, 0b11001010, 0b11001011, 0b11001100, 0b11001101, 0b11001110, 0b11001111].map
      (fun op => decodeOp op 0x34 0x12) =
    [.rnz, .popB, .jnz 0x1234, .jmp 0x1234,
     .cnz 0x1234, .pushB, .adi 0x34, .rst0,
     .rz, .ret, .jz 0x1234, .invalid 0xCB,
     .cz 0x1234, .call 0x1234, .aci 0x34, .rst1] := by
  decide

theorem test_decode_row_D :
    [0b11010000, 0b11010001, 0b11010010, 0b11010011, 0b11010100, 0b11010101, 0b11010110, 0b11010111,
     0b11011000, 0b11011001, 0b11011010, 0b11011011, 0b11011100, 0b11011101, 0b11011110, 0b11011111].map
      (fun op => decodeOp op 0x34 0x12) =
    [.rnc, .popD, .jnc 0x1234, .outPort 0x34,
     .cnc 0x1234, .pushD, .sui 0x34, .rst2,
     .rc, .invalid 0xD9, .jc 0x1234, .inPort 0x34,
     .cc 0x1234, .invalid 0xDD, .sbi 0x34, .rst3] := by
  decide

theorem test_decode_row_E :
    [0b11100000, 0b11100001, 0b11100010, 0b11100011, 0b11100100, 0b11100101, 0b11100110, 0b11100111,
     0b11101000, 0b11101001, 0b11101010, 0b11101011, 0b11101100, 0b11101101, 0b11101110, 0b11101111].map
      (fun op => decodeOp op 0x34 0x12) =
    [.rpo, .popH, .jpo 0x1234, .xthl,
     .cpo 0x1234, .pushH, .ani 0x34, .rst4,
     .rpe, .pchl, .jpe 0x1234, .xchg,
     .cpe 0x1234, .invalid 0xED, .xri 0x34, .rst5] := by
  decide

theorem test_decode_row_F :
    [0b11110000, 0b11110001, 0b11110010, 0b11110011, 0b11110100, 0b11110101, 0b11110110, 0b11110111,
     0b11111000, 0b11111001, 0b11111010, 0b11111011, 0b11111100, 0b11111101, 0b11111110, 0b11111111].map
      (fun op => decodeOp op 0x34 0x12) =
    [.rp, .popPsw, .jp 0x1234, .di,
     .cp 0x1234, .pushPsw, .ori 0x34, .rst6,
     .rm, .sphl, .jm 0x1234, .ei,
     .cm 0x1234, .invalid 0xFD, .cpi 0x34, .rst7] := by
  decide

/-! ### The decoder on byte lists and on the table's numbers -/

theorem test_decode_takes_the_operand_bytes_only :
    (decode [0x21, 0x34, 0x12, 0xFF]).toOption = some (.lxiH 0x1234, [0xFF]) := by decide

theorem test_decode_rejects_a_truncated_instruction :
    (decode [0xC3, 0x00]).toOption = none ∧ (decode [0x3E]).toOption = none ∧ (decode []).toOption = none := by decide

theorem test_decodeTableWord : decodeTableWord 8 0x76 = some .hlt ∧ decodeTableWord 16 0x5A3E = some (.mviA 0x5A) ∧
    decodeTableWord 24 0x1234C3 = some (.jmp 0x1234) ∧ decodeTableWord 8 0xC3 = some (.jmp 0) := by decide

theorem test_withFetchWord_runs_as_the_first_instruction :
    seen (fun t => (t.regs.a, t.pc)) (step (State.reset.withFetchWord 16 0x5A3E)) = some (0x5A, 2) ∧
    seen (fun t => (t.pc, t.cycles)) (step (State.reset.withFetchWord 24 0x1234C3)) = some (0x1234, 10) := by decide

/-! ### Single steps: the vectors of spec/95_test_vectors.md -/

/-- V1 (R150): MOV B,C. -/
theorem test_V1_mov_register :
    seen (fun t => (t.regs.b, t.pc, packF t.flags, t.cycles))
      (step (start [0x41] { z with regs := { zr with c := 0x77 } })) =
      some (0x77, 0x0001, 0x02, 5) := by
  decide

/-- V2 (R150): MOV A,A. -/
theorem test_V2_mov_register :
    seen (fun t => (t.pc, packF t.flags, t.cycles))
      (step (start [0x7F] { z with regs := { zr with a := 0x3C } })) =
      some (0x0001, 0x02, 5) := by
  decide

/-- V3 (R151): MOV L,M (L is the address half). -/
theorem test_V3_mov_from_memory_reads_the_old_HL :
    seen (fun t => (t.regs.l, t.pc, packF t.flags, t.cycles))
      (step (start [0x6E] { z with regs := { zr with h := 0x20, l := 0x00 }, mem := zm [(0x2000, 0x99)] })) =
      some (0x99, 0x0001, 0x02, 7) := by
  decide

/-- V4 (R152): MOV M,H. -/
theorem test_V4_mov_to_memory :
    seen (fun t => (memRead t 0x2010, t.pc, packF t.flags, t.cycles))
      (step (start [0x74] { z with regs := { zr with h := 0x20, l := 0x10 } })) =
      some (0x20, 0x0001, 0x02, 7) := by
  decide

/-- V5 (R153): HLT. -/
theorem test_V5_hlt :
    seen (fun t => (t.halted, t.pc, packF t.flags, t.cycles))
      (step (start [0x76] { z with pc := 0x0100 })) =
      some (true, 0x0101, 0x02, 7) := by
  decide

/-- V6 (R153): HLT at 0xFFFF. -/
theorem test_V6_hlt :
    seen (fun t => (t.halted, t.pc, packF t.flags, t.cycles))
      (step (start [0x76] { z with pc := 0xFFFF })) =
      some (true, 0x0000, 0x02, 7) := by
  decide

/-- V10 (R160): ADD B, no carry. -/
theorem test_V10_add :
    seen (fun t => (t.regs.a, t.pc, packF t.flags, t.cycles))
      (step (start [0x80] { z with regs := { zr with a := 0x2E, b := 0x6C } })) =
      some (0x9A, 0x0001, 0x96, 4) := by
  decide

/-- V11 (R160): ADD B, 0x80 + 0x80. -/
theorem test_V11_add :
    seen (fun t => (t.regs.a, t.pc, packF t.flags, t.cycles))
      (step (start [0x80] { z with regs := { zr with a := 0x80, b := 0x80 } })) =
      some (0x00, 0x0001, 0x47, 4) := by
  decide

/-- V12 (R160): ADD A (double). -/
theorem test_V12_add :
    seen (fun t => (t.regs.a, t.pc, packF t.flags, t.cycles))
      (step (start [0x87] { z with regs := { zr with a := 0x44 } })) =
      some (0x88, 0x0001, 0x86, 4) := by
  decide

/-- V13 (R160): ADD M. -/
theorem test_V13_add :
    seen (fun t => (t.regs.a, t.pc, packF t.flags, t.cycles))
      (step (start [0x86] { z with regs := { zr with a := 0x01, h := 0x20, l := 0x00 }, mem := zm [(0x2000, 0x0F)] })) =
      some (0x10, 0x0001, 0x12, 7) := by
  decide

/-- V14 (R161): ADC B, FF + FF + 1. -/
theorem test_V14_adc :
    seen (fun t => (t.pc, packF t.flags, t.cycles))
      (step (start [0x88] { z with regs := { zr with a := 0xFF, b := 0xFF }, flags := { zf with cy := true } })) =
      some (0x0001, 0x97, 4) := by
  decide

/-- V15 (R161): ADC C, carry-in makes the nibble carry. -/
theorem test_V15_adc :
    seen (fun t => (t.regs.a, t.pc, packF t.flags, t.cycles))
      (step (start [0x89] { z with regs := { zr with a := 0x0F, c := 0x00 }, flags := { zf with cy := true } })) =
      some (0x10, 0x0001, 0x12, 4) := by
  decide

/-- V16 (R162): SUB A. -/
theorem test_V16_sub :
    seen (fun t => (t.regs.a, t.pc, packF t.flags, t.cycles))
      (step (start [0x97] { z with regs := { zr with a := 0x3E }, flags := { zf with cy := true, ac := true } })) =
      some (0x00, 0x0001, 0x46, 4) := by
  decide

/-- V17 (R162): SUB B, 0x10 - 0x01. -/
theorem test_V17_sub :
    seen (fun t => (t.regs.a, t.pc, packF t.flags, t.cycles))
      (step (start [0x90] { z with regs := { zr with a := 0x10, b := 0x01 } })) =
      some (0x0F, 0x0001, 0x16, 4) := by
  decide

/-- V18 (R163): SBB B, borrow-in makes the nibble borrow. -/
theorem test_V18_sbb :
    seen (fun t => (t.regs.a, t.pc, packF t.flags, t.cycles))
      (step (start [0x98] { z with regs := { zr with a := 0x10, b := 0x00 }, flags := { zf with cy := true } })) =
      some (0x0F, 0x0001, 0x16, 4) := by
  decide

/-- V19 (R163): SBB B, 0x00 - 0xFF - 1. -/
theorem test_V19_sbb :
    seen (fun t => (t.pc, packF t.flags, t.cycles))
      (step (start [0x98] { z with regs := { zr with a := 0x00, b := 0xFF }, flags := { zf with cy := true } })) =
      some (0x0001, 0x57, 4) := by
  decide

/-- V20 (R164): ANA C, AC quirk bit 3 of (A or C). -/
theorem test_V20_ana :
    seen (fun t => (t.regs.a, t.pc, packF t.flags, t.cycles))
      (step (start [0xA1] { z with regs := { zr with a := 0xF0, c := 0x0F }, flags := { zf with cy := true } })) =
      some (0x00, 0x0001, 0x56, 4) := by
  decide

/-- V21 (R164): ANA A, AC = A[3]. -/
theorem test_V21_ana :
    seen (fun t => (t.pc, packF t.flags, t.cycles))
      (step (start [0xA7] { z with regs := { zr with a := 0xF7 }, flags := { zf with cy := true } })) =
      some (0x0001, 0x82, 4) := by
  decide

/-- V22 (R165): XRA A. -/
theorem test_V22_xra :
    seen (fun t => (t.regs.a, t.pc, packF t.flags, t.cycles))
      (step (start [0xAF] { z with regs := { zr with a := 0x5A }, flags := { zf with cy := true, ac := true } })) =
      some (0x00, 0x0001, 0x46, 4) := by
  decide

/-- V23 (R166): ORA M. -/
theorem test_V23_ora :
    seen (fun t => (t.regs.a, t.pc, packF t.flags, t.cycles))
      (step (start [0xB6] { z with regs := { zr with a := 0x80, h := 0x20, l := 0x00 }, flags := { zf with cy := true }, mem := zm [(0x2000, 0x01)] })) =
      some (0x81, 0x0001, 0x86, 7) := by
  decide

/-- V25 (R167): CMP B, A < B. -/
theorem test_V25_cmp :
    seen (fun t => (t.pc, packF t.flags, t.cycles))
      (step (start [0xB8] { z with regs := { zr with a := 0x01, b := 0x02 } })) =
      some (0x0001, 0x97, 4) := by
  decide

/-- V26 (R167): CMP B, A > B, CY-in ignored. -/
theorem test_V26_cmp :
    seen (fun t => (t.pc, packF t.flags, t.cycles))
      (step (start [0xB8] { z with regs := { zr with a := 0x05, b := 0x02 }, flags := { zf with cy := true } })) =
      some (0x0001, 0x06, 4) := by
  decide

/-- V27 (R168): ADI 0x01 from 0xFF (source §8). -/
theorem test_V27_adi :
    seen (fun t => (t.regs.a, t.pc, packF t.flags, t.cycles))
      (step (start [0xC6, 0x01] { z with regs := { zr with a := 0xFF } })) =
      some (0x00, 0x0002, 0x57, 7) := by
  decide

/-- V28 (R169): ACI 0x00 with carry. -/
theorem test_V28_aci :
    seen (fun t => (t.regs.a, t.pc, packF t.flags, t.cycles))
      (step (start [0xCE, 0x00] { z with regs := { zr with a := 0xFF }, flags := { zf with cy := true } })) =
      some (0x00, 0x0002, 0x57, 7) := by
  decide

/-- V29 (R170): SUI 0x00. -/
theorem test_V29_sui :
    seen (fun t => (t.pc, packF t.flags, t.cycles))
      (step (start [0xD6, 0x00] { z with regs := { zr with a := 0x80 }, flags := { zf with cy := true, ac := true } })) =
      some (0x0002, 0x82, 7) := by
  decide

/-- V30 (R171): SBI 0xFF with borrow. -/
theorem test_V30_sbi :
    seen (fun t => (t.pc, packF t.flags, t.cycles))
      (step (start [0xDE, 0xFF] { z with regs := { zr with a := 0x37 }, flags := { zf with cy := true } })) =
      some (0x0002, 0x13, 7) := by
  decide

/-- V31 (R172): ANI 0x00 (AC from A[3]). -/
theorem test_V31_ani :
    seen (fun t => (t.regs.a, t.pc, packF t.flags, t.cycles))
      (step (start [0xE6, 0x00] { z with regs := { zr with a := 0x08 } })) =
      some (0x00, 0x0002, 0x56, 7) := by
  decide

/-- V32 (R173): XRI 0xFF. -/
theorem test_V32_xri :
    seen (fun t => (t.regs.a, t.pc, packF t.flags, t.cycles))
      (step (start [0xEE, 0xFF] { z with regs := { zr with a := 0x0F } })) =
      some (0xF0, 0x0002, 0x86, 7) := by
  decide

/-- V33 (R174): ORI 0x00 at 0xFFFE. -/
theorem test_V33_ori :
    seen (fun t => (t.pc, packF t.flags, t.cycles))
      (step (start [0xF6, 0x00] { z with regs := { zr with a := 0x00 }, pc := 0xFFFE })) =
      some (0x0000, 0x46, 7) := by
  decide

/-- V34 (R175): CPI 0xFF. -/
theorem test_V34_cpi :
    seen (fun t => (t.pc, packF t.flags, t.cycles))
      (step (start [0xFE, 0xFF] { z with regs := { zr with a := 0x00 } })) =
      some (0x0002, 0x13, 7) := by
  decide

/-- V44 (R177): CMA. -/
theorem test_V44_cma :
    seen (fun t => (t.regs.a, t.pc, packF t.flags, t.cycles))
      (step (start [0x2F] { z with regs := { zr with a := 0x00 }, flags := { zf with cy := true, z := true } })) =
      some (0xFF, 0x0001, 0x43, 4) := by
  decide

/-- V45 (R178): STC. -/
theorem test_V45_stc :
    seen (fun t => (t.pc, packF t.flags, t.cycles))
      (step (start [0x37] { z with flags := { zf with z := true } })) =
      some (0x0001, 0x43, 4) := by
  decide

/-- V46 (R179): CMC from 0. -/
theorem test_V46_cmc :
    seen (fun t => (t.pc, packF t.flags, t.cycles))
      (step (start [0x3F] z)) =
      some (0x0001, 0x03, 4) := by
  decide

/-- V50 (R200): MVI A,0xFF. -/
theorem test_V50_mvi :
    seen (fun t => (t.regs.a, t.pc, packF t.flags, t.cycles))
      (step (start [0x3E, 0xFF] z)) =
      some (0xFF, 0x0002, 0x02, 7) := by
  decide

/-- V51 (R201): MVI M,0x00. -/
theorem test_V51_mvi_memory :
    seen (fun t => (memRead t 0xFFFF, t.pc, packF t.flags, t.cycles))
      (step (start [0x36, 0x00] { z with regs := { zr with h := 0xFF, l := 0xFF }, pc := 0x0100, mem := zm [(0xFFFF, 0x12)] })) =
      some (0x00, 0x0102, 0x02, 10) := by
  decide

/-- V52 (R202): LXI SP,0xFFFF. -/
theorem test_V52_lxi :
    seen (fun t => (t.sp, t.pc, packF t.flags, t.cycles))
      (step (start [0x31, 0xFF, 0xFF] z)) =
      some (0xFFFF, 0x0003, 0x02, 10) := by
  decide

/-- V53 (R202): LXI B,0x0000. -/
theorem test_V53_lxi :
    seen (fun t => (t.regs.b, t.regs.c, t.pc, packF t.flags, t.cycles))
      (step (start [0x01, 0x00, 0x00] { z with regs := { zr with b := 0x12, c := 0x34 } })) =
      some (0x00, 0x00, 0x0003, 0x02, 10) := by
  decide

/-- V54 (R203): INX SP wrap. -/
theorem test_V54_inx :
    seen (fun t => (t.sp, t.pc, packF t.flags, t.cycles))
      (step (start [0x33] { z with sp := 0xFFFF })) =
      some (0x0000, 0x0001, 0x02, 5) := by
  decide

/-- V55 (R203): INX H (no flags). -/
theorem test_V55_inx :
    seen (fun t => (t.regs.h, t.regs.l, t.pc, packF t.flags, t.cycles))
      (step (start [0x23] { z with regs := { zr with h := 0xFF, l := 0xFF } })) =
      some (0x00, 0x00, 0x0001, 0x02, 5) := by
  decide

/-- V56 (R204): DCX B wrap. -/
theorem test_V56_dcx :
    seen (fun t => (t.regs.b, t.regs.c, t.pc, packF t.flags, t.cycles))
      (step (start [0x0B] z)) =
      some (0xFF, 0xFF, 0x0001, 0x02, 5) := by
  decide

/-- V57 (R205): DAD H (doubling, carry). -/
theorem test_V57_dad :
    seen (fun t => (t.regs.h, t.regs.l, t.pc, packF t.flags, t.cycles))
      (step (start [0x29] { z with regs := { zr with h := 0x80, l := 0x01 } })) =
      some (0x00, 0x02, 0x0001, 0x03, 10) := by
  decide

/-- V58 (R205): DAD SP, Z untouched. -/
theorem test_V58_dad :
    seen (fun t => (t.regs.h, t.regs.l, t.pc, packF t.flags, t.cycles))
      (step (start [0x39] { z with regs := { zr with h := 0xFF, l := 0xFF }, sp := 0x0001, flags := { zf with z := false } })) =
      some (0x00, 0x00, 0x0001, 0x03, 10) := by
  decide

/-- V59 (R205): DAD D, no carry clears CY. -/
theorem test_V59_dad :
    seen (fun t => (t.regs.l, t.pc, packF t.flags, t.cycles))
      (step (start [0x19] { z with regs := { zr with d := 0x00, e := 0x01, h := 0x00, l := 0x01 }, flags := { zf with cy := true } })) =
      some (0x02, 0x0001, 0x02, 10) := by
  decide

/-- V60 (R206): LDAX B. -/
theorem test_V60_ldax :
    seen (fun t => (t.regs.a, t.pc, packF t.flags, t.cycles))
      (step (start [0x0A] { z with regs := { zr with b := 0x12, c := 0x34 }, mem := zm [(0x1234, 0xAB)] })) =
      some (0xAB, 0x0001, 0x02, 7) := by
  decide

/-- V61 (R207): STAX D. -/
theorem test_V61_stax :
    seen (fun t => (memRead t 0x4000, t.pc, packF t.flags, t.cycles))
      (step (start [0x12] { z with regs := { zr with a := 0x5C, d := 0x40, e := 0x00 } })) =
      some (0x5C, 0x0001, 0x02, 7) := by
  decide

/-- V62 (R208): LDA 0xFFFF. -/
theorem test_V62_lda :
    seen (fun t => (t.regs.a, t.pc, packF t.flags, t.cycles))
      (step (start [0x3A, 0xFF, 0xFF] { z with mem := zm [(0xFFFF, 0x66)] })) =
      some (0x66, 0x0003, 0x02, 13) := by
  decide

/-- V63 (R209): STA 0x0000 (overwrites its own opcode). -/
theorem test_V63_sta :
    seen (fun t => (memRead t 0x0000, t.pc, packF t.flags, t.cycles))
      (step (start [0x32, 0x00, 0x00] { z with regs := { zr with a := 0x76 } })) =
      some (0x76, 0x0003, 0x02, 13) := by
  decide

/-- V64 (R210): LHLD 0xFFFF (wraps). -/
theorem test_V64_lhld_wraps :
    seen (fun t => (t.regs.h, t.regs.l, t.pc, packF t.flags, t.cycles))
      (step (start [0x2A, 0xFF, 0xFF] { z with mem := zm [(0x0000, 0x2A), (0xFFFF, 0x11)] })) =
      some (0x2A, 0x11, 0x0003, 0x02, 16) := by
  decide

/-- V65 (R211): SHLD 0xFFFF (wraps). -/
theorem test_V65_shld_wraps :
    seen (fun t => (memRead t 0x0000, memRead t 0xFFFF, t.pc, packF t.flags, t.cycles))
      (step (start [0x22, 0xFF, 0xFF] { z with regs := { zr with h := 0xBE, l := 0xEF }, pc := 0x0100 })) =
      some (0xBE, 0xEF, 0x0103, 0x02, 16) := by
  decide

/-- V70 (R230): INR A from 0xFF, CY kept. -/
theorem test_V70_inr :
    seen (fun t => (t.regs.a, t.pc, packF t.flags, t.cycles))
      (step (start [0x3C] { z with regs := { zr with a := 0xFF }, flags := { zf with cy := true } })) =
      some (0x00, 0x0001, 0x57, 5) := by
  decide

/-- V71 (R230): INR B from 0x0F. -/
theorem test_V71_inr :
    seen (fun t => (t.regs.b, t.pc, packF t.flags, t.cycles))
      (step (start [0x04] { z with regs := { zr with b := 0x0F } })) =
      some (0x10, 0x0001, 0x12, 5) := by
  decide

/-- V72 (R231): INR M. -/
theorem test_V72_inr_memory :
    seen (fun t => (memRead t 0x2000, t.pc, packF t.flags, t.cycles))
      (step (start [0x34] { z with regs := { zr with h := 0x20, l := 0x00 }, mem := zm [(0x2000, 0x7F)] })) =
      some (0x80, 0x0001, 0x92, 10) := by
  decide

/-- V79 (R234): RLC 0x80. -/
theorem test_V79_rlc :
    seen (fun t => (t.regs.a, t.pc, packF t.flags, t.cycles))
      (step (start [0x07] { z with regs := { zr with a := 0x80 }, flags := { zf with z := true } })) =
      some (0x01, 0x0001, 0x43, 4) := by
  decide

/-- V80 (R235): RRC 0x01. -/
theorem test_V80_rrc :
    seen (fun t => (t.regs.a, t.pc, packF t.flags, t.cycles))
      (step (start [0x0F] { z with regs := { zr with a := 0x01 } })) =
      some (0x80, 0x0001, 0x03, 4) := by
  decide

/-- V81 (R236): RAL 0x80 with CY=0. -/
theorem test_V81_ral :
    seen (fun t => (t.regs.a, t.pc, packF t.flags, t.cycles))
      (step (start [0x17] { z with regs := { zr with a := 0x80 } })) =
      some (0x00, 0x0001, 0x03, 4) := by
  decide

/-- V82 (R236): RAL 0x00 with CY=1. -/
theorem test_V82_ral :
    seen (fun t => (t.regs.a, t.pc, packF t.flags, t.cycles))
      (step (start [0x17] { z with regs := { zr with a := 0x00 }, flags := { zf with cy := true } })) =
      some (0x01, 0x0001, 0x02, 4) := by
  decide

/-- V83 (R237): RAR 0x01 with CY=0. -/
theorem test_V83_rar :
    seen (fun t => (t.regs.a, t.pc, packF t.flags, t.cycles))
      (step (start [0x1F] { z with regs := { zr with a := 0x01 } })) =
      some (0x00, 0x0001, 0x03, 4) := by
  decide

/-- V84 (R237): RAR 0x00 with CY=1. -/
theorem test_V84_rar :
    seen (fun t => (t.regs.a, t.pc, packF t.flags, t.cycles))
      (step (start [0x1F] { z with regs := { zr with a := 0x00 }, flags := { zf with cy := true } })) =
      some (0x80, 0x0001, 0x02, 4) := by
  decide

/-- V90 (R251): JMP to itself. -/
theorem test_V90_jmp :
    seen (fun t => (t.pc, packF t.flags, t.cycles))
      (step (start [0xC3, 0x00, 0x00] z)) =
      some (0x0000, 0x02, 10) := by
  decide

/-- V91 (R258): JPE taken (P=1). -/
theorem test_V91_jpe_taken :
    seen (fun t => (t.pc, packF t.flags, t.cycles))
      (step (start [0xEA, 0x00, 0x20] { z with pc := 0x0100, flags := { zf with p := true } })) =
      some (0x2000, 0x06, 16) := by
  decide

/-- V92 (R257): JPO not taken (P=1). -/
theorem test_V92_jpo_not_taken :
    seen (fun t => (t.pc, packF t.flags, t.cycles))
      (step (start [0xE2, 0x00, 0x20] { z with pc := 0x0100, flags := { zf with p := true } })) =
      some (0x0103, 0x06, 10) := by
  decide

/-- V93 (R260): JM taken. -/
theorem test_V93_jm_taken :
    seen (fun t => (t.pc, packF t.flags, t.cycles))
      (step (start [0xFA, 0x34, 0x12] { z with flags := { zf with s := true } })) =
      some (0x1234, 0x82, 16) := by
  decide

/-- V94 (R255): JNC not taken at 0xFFFE (next wraps). -/
theorem test_V94_jnc_not_taken_wraps :
    seen (fun t => (t.pc, packF t.flags, t.cycles))
      (step (start [0xD2, 0x00, 0x00] { z with pc := 0xFFFE, flags := { zf with cy := true } })) =
      some (0x0001, 0x03, 10) := by
  decide

/-- V95 (R261): CALL with SP = 0x0000. -/
theorem test_V95_call_wraps :
    seen (fun t => (t.sp, memRead t 0xFFFE, memRead t 0xFFFF, t.pc, packF t.flags, t.cycles))
      (step (start [0xCD, 0x00, 0x30] { z with pc := 0x0100 })) =
      some (0xFFFE, 0x03, 0x01, 0x3000, 0x02, 17) := by
  decide

/-- V96 (R261): CALL with SP = 0x0001. -/
theorem test_V96_call_wraps :
    seen (fun t => (t.sp, memRead t 0x0000, memRead t 0xFFFF, t.pc, packF t.flags, t.cycles))
      (step (start [0xCD, 0x00, 0x30] { z with sp := 0x0001, pc := 0x0100 })) =
      some (0xFFFF, 0x01, 0x03, 0x3000, 0x02, 17) := by
  decide

/-- V97 (R266): CC not taken. -/
theorem test_V97_cc_not_taken :
    seen (fun t => (t.pc, packF t.flags, t.cycles))
      (step (start [0xDC, 0x00, 0x30] { z with sp := 0x2000, pc := 0x0100 })) =
      some (0x0103, 0x02, 11) := by
  decide

/-- V98 (R270): CM taken. -/
theorem test_V98_cm_taken :
    seen (fun t => (t.sp, memRead t 0x1FFE, memRead t 0x1FFF, t.pc, packF t.flags, t.cycles))
      (step (start [0xFC, 0x00, 0x30] { z with sp := 0x2000, pc := 0x0100, flags := { zf with s := true } })) =
      some (0x1FFE, 0x03, 0x01, 0x3000, 0x82, 17) := by
  decide

/-- V99 (R271): RET with SP = 0xFFFF. -/
theorem test_V99_ret_wraps :
    seen (fun t => (t.sp, t.pc, packF t.flags, t.cycles))
      (step (start [0xC9] { z with sp := 0xFFFF, mem := zm [(0x0000, 0xC9), (0xFFFF, 0x34)] })) =
      some (0x0001, 0xC934, 0x02, 10) := by
  decide

/-- V100 (R274): RZ taken. -/
theorem test_V100_rz_taken :
    seen (fun t => (t.sp, t.pc, packF t.flags, t.cycles))
      (step (start [0xC8] { z with sp := 0x2000, pc := 0x0300, flags := { zf with z := true }, mem := zm [(0x2000, 0x03), (0x2001, 0x01)] })) =
      some (0x2002, 0x0103, 0x42, 11) := by
  decide

/-- V101 (R277): RPO not taken (P=1). -/
theorem test_V101_rpo_not_taken :
    seen (fun t => (t.pc, packF t.flags, t.cycles))
      (step (start [0xE0] { z with sp := 0x2000, pc := 0x0300, flags := { zf with p := true } })) =
      some (0x0301, 0x06, 5) := by
  decide

/-- V102 (R281): RST 0. -/
theorem test_V102_rst :
    seen (fun t => (t.sp, memRead t 0x1FFE, memRead t 0x1FFF, t.pc, packF t.flags, t.cycles))
      (step (start [0xC7] { z with sp := 0x2000, pc := 0x1234 })) =
      some (0x1FFE, 0x35, 0x12, 0x0000, 0x02, 11) := by
  decide

/-- V103 (R281): RST 7. -/
theorem test_V103_rst :
    seen (fun t => (t.sp, memRead t 0x1FFE, memRead t 0x1FFF, t.pc, packF t.flags, t.cycles))
      (step (start [0xFF] { z with sp := 0x2000, pc := 0x1234 })) =
      some (0x1FFE, 0x35, 0x12, 0x0038, 0x02, 11) := by
  decide

/-- V104 (R281): RST 1 at 0x0008 (pushes 0x0009). -/
theorem test_V104_rst :
    seen (fun t => (t.sp, memRead t 0x1FFE, t.pc, packF t.flags, t.cycles))
      (step (start [0xCF] { z with sp := 0x2000, pc := 0x0008 })) =
      some (0x1FFE, 0x09, 0x0008, 0x02, 11) := by
  decide

/-- V105 (R282): PCHL. -/
theorem test_V105_pchl :
    seen (fun t => (t.pc, packF t.flags, t.cycles))
      (step (start [0xE9] { z with regs := { zr with h := 0xFF, l := 0xFF } })) =
      some (0xFFFF, 0x02, 5) := by
  decide

/-- V110 (R300): PUSH B at SP = 0x0000. -/
theorem test_V110_push :
    seen (fun t => (t.sp, memRead t 0xFFFE, memRead t 0xFFFF, t.pc, packF t.flags, t.cycles))
      (step (start [0xC5] { z with regs := { zr with b := 0x12, c := 0x34 }, pc := 0x0100 })) =
      some (0xFFFE, 0x34, 0x12, 0x0101, 0x02, 11) := by
  decide

/-- V111 (R301): PUSH PSW after reset. -/
theorem test_V111_push_psw :
    seen (fun t => (t.sp, memRead t 0x1FFE, t.pc, packF t.flags, t.cycles))
      (step (start [0xF5] { z with sp := 0x2000, pc := 0x0100 })) =
      some (0x1FFE, 0x02, 0x0101, 0x02, 11) := by
  decide

/-- V112 (R301): PUSH PSW, all flags set. -/
theorem test_V112_push_psw :
    seen (fun t => (t.sp, memRead t 0x1FFE, memRead t 0x1FFF, t.pc, packF t.flags, t.cycles))
      (step (start [0xF5] { z with regs := { zr with a := 0xAA }, sp := 0x2000, pc := 0x0100, flags := { zf with cy := true, ac := true, z := true, s := true, p := true } })) =
      some (0x1FFE, 0xD7, 0xAA, 0x0101, 0xD7, 11) := by
  decide

/-- V113 (R303): POP PSW of 0x00 (fixed bit restored). -/
theorem test_V113_pop_psw :
    seen (fun t => (t.regs.a, t.sp, t.pc, packF t.flags, t.cycles))
      (step (start [0xF1] { z with sp := 0x2000, flags := { zf with cy := true, s := true }, mem := zm [(0x2001, 0x11)] })) =
      some (0x11, 0x2002, 0x0001, 0x02, 10) := by
  decide

/-- V114 (R303): POP PSW of 0x28 (reserved bits dropped). -/
theorem test_V114_pop_psw :
    seen (fun t => (t.sp, t.pc, packF t.flags, t.cycles))
      (step (start [0xF1] { z with sp := 0x2000, mem := zm [(0x2000, 0x28)] })) =
      some (0x2002, 0x0001, 0x02, 10) := by
  decide

/-- V115 (R302): POP D at SP = 0xFFFF. -/
theorem test_V115_pop :
    seen (fun t => (t.regs.d, t.regs.e, t.sp, t.pc, packF t.flags, t.cycles))
      (step (start [0xD1] { z with sp := 0xFFFF, pc := 0x0100, mem := zm [(0x0000, 0x56), (0xFFFF, 0x78)] })) =
      some (0x56, 0x78, 0x0001, 0x0101, 0x02, 10) := by
  decide

/-- V117 (R304): XTHL. -/
theorem test_V117_xthl :
    seen (fun t => ((t.regs.h, t.regs.l, memRead t 0x2000, memRead t 0x2001), t.pc, packF t.flags, t.cycles))
      (step (start [0xE3] { z with regs := { zr with h := 0x12, l := 0x34 }, sp := 0x2000, mem := zm [(0x2000, 0x78), (0x2001, 0x56)] })) =
      some ((0x56, 0x78, 0x34, 0x12), 0x0001, 0x02, 18) := by
  decide

/-- V118 (R304): XTHL at SP = 0xFFFF. -/
theorem test_V118_xthl :
    seen (fun t => ((t.regs.h, t.regs.l, memRead t 0x0000, memRead t 0xFFFF), t.pc, packF t.flags, t.cycles))
      (step (start [0xE3] { z with regs := { zr with h := 0x12, l := 0x34 }, sp := 0xFFFF, pc := 0x0100, mem := zm [(0x0000, 0x56), (0xFFFF, 0x78)] })) =
      some ((0x56, 0x78, 0x12, 0x34), 0x0101, 0x02, 18) := by
  decide

/-- V119 (R305): SPHL. -/
theorem test_V119_sphl :
    seen (fun t => (t.sp, t.pc, packF t.flags, t.cycles))
      (step (start [0xF9] { z with regs := { zr with h := 0x00, l := 0x01 } })) =
      some (0x0001, 0x0001, 0x02, 5) := by
  decide

/-- V120 (R306): XCHG. -/
theorem test_V120_xchg :
    seen (fun t => ((t.regs.d, t.regs.e, t.regs.h, t.regs.l), t.pc, packF t.flags, t.cycles))
      (step (start [0xEB] { z with regs := { zr with d := 0x11, e := 0x22, h := 0x33, l := 0x44 } })) =
      some ((0x33, 0x44, 0x11, 0x22), 0x0001, 0x02, 4) := by
  decide

/-- V121 (R307): EI. -/
theorem test_V121_ei :
    seen (fun t => (t.inte, t.pc, packF t.flags, t.cycles))
      (step (start [0xFB] z)) =
      some (true, 0x0001, 0x02, 4) := by
  decide

/-- V122 (R308): DI. -/
theorem test_V122_di :
    seen (fun t => (t.inte, t.pc, packF t.flags, t.cycles))
      (step (start [0xF3] { z with inte := true })) =
      some (false, 0x0001, 0x02, 4) := by
  decide

/-- V124 (R310): OUT 0x00. -/
theorem test_V124_out :
    seen (fun t => (t.portOut, t.pc, packF t.flags, t.cycles))
      (step (start [0xD3, 0x00] { z with regs := { zr with a := 0xC3 } })) =
      some ([{ port := 0x00, value := 0xC3 }], 0x0002, 0x02, 10) := by
  decide

/-- V125 (R311): NOP at 0xFFFF. -/
theorem test_V125_nop_wraps :
    seen (fun t => (t.pc, packF t.flags, t.cycles))
      (step (start [0x00] { z with pc := 0xFFFF })) =
      some (0x0000, 0x02, 4) := by
  decide

/-! ### The settings that Config leaves free: the helpers at each setting -/

/-- V35, V42, V43, V37, V36: under every setting. -/
theorem test_daa_under_every_setting :
    ([Config.DaaHighTrigger.path, .loGt9].all fun g => [Config.DaaCarryRule.carryOut, .sticky].all fun c =>
      decide ((aluDaa g c zf 0x9B).1 = 0x01 ∧ packF (aluDaa g c zf 0x9B).2 = 0x13 ∧
        (aluDaa g c zf 0xAA).1 = 0x10 ∧ packF (aluDaa g c zf 0xAA).2 = 0x13 ∧
        (aluDaa g c zf 0x9A).1 = 0x00 ∧ packF (aluDaa g c zf 0x9A).2 = 0x57 ∧
        (aluDaa g c zf 0x00).1 = 0x00 ∧ packF (aluDaa g c zf 0x00).2 = 0x46 ∧
        (aluDaa g c zf 0x7D).1 = 0x83 ∧ packF (aluDaa g c zf 0x7D).2 = 0x92)) = true := by
  decide

/-- V38 to V41: where the settings differ. -/
theorem test_daa_where_the_settings_differ :
    ((aluDaa .path .carryOut { zf with cy := true, ac := true } 0x32).1 = 0x98 ∧
      packF (aluDaa .path .carryOut { zf with cy := true, ac := true } 0x32).2 = 0x82 ∧
      packF (aluDaa .path .sticky { zf with cy := true, ac := true } 0x32).2 = 0x83) ∧
    (aluDaa .path .carryOut { zf with ac := true } 0x93).1 = 0xF9 ∧
    (aluDaa .loGt9 .carryOut { zf with ac := true } 0x93).1 = 0x99 ∧
    packF (aluDaa .loGt9 .carryOut { zf with ac := true } 0x93).2 = 0x86 := by
  decide

/-- V73 to V76: both forms of the auxiliary carry. -/
theorem test_dcr_both_forms :
    ((aluDcr .borrow zf 0x00).1 = 0xFF ∧ packF (aluDcr .borrow zf 0x00).2 = 0x96 ∧
      packF (aluDcr .nonborrow zf 0x00).2 = 0x86) ∧
    (aluDcr .borrow { zf with cy := true } 0x01).1 = 0x00 ∧ packF (aluDcr .borrow { zf with cy := true } 0x01).2 = 0x47 ∧
    packF (aluDcr .nonborrow { zf with cy := true } 0x01).2 = 0x57 := by
  decide

/-- V77, V78: the parts of the result that do not depend on the form. -/
theorem test_dcr_memory :
    seen (fun t => (memRead t 0x2000, t.flags.p, t.flags.cy, t.pc, t.cycles))
      (step (start [0x35] { z with regs := { zr with h := 0x20 }, mem := zm [(0x2000, 0x10)] })) =
      some (0x0F, true, false, 1, 10) := by
  decide

/-- V123: IN leaves the flags and takes one draw; the byte is free. -/
theorem test_in : seen (fun t => (packF t.flags, t.portIn, t.pc, t.cycles))
    (step (start [0xDB, 0xFF] { z with regs := { zr with a := 0x55 } })) = some (0x02, 1, 2, 10) := by
  decide

/-- V7: no step when halted. -/
theorem test_halted_has_no_step : faultOf (step { z with halted := true }) = some .halted ∧
    returnedCycles (step { z with halted := true }) = none := by decide

/-- V130 to V141: the 12 invalid opcodes. -/
theorem test_invalid_opcodes :
    (invalidOpcodes.all fun op => decide (
      faultOf (step (start [op] { z with pc := 0x0200, sp := 0x3000, regs := { zr with a := 0x11 } })) =
        some (.invalidOpcode op 0x0200) ∧
      returnedCycles (step (start [op] { z with pc := 0x0200 })) = some 0)) = true := by
  decide

/-- S1 (R100). -/
theorem test_parity : parity 0x00 = true ∧ parity 0x01 = false ∧ parity 0xFF = true ∧ parity 0x03 = true ∧
    parity 0x07 = false := by
  decide

/-- S2 (R38). -/
theorem test_reset : State.reset.pc = 0 ∧ State.reset.sp = 0 ∧ packF State.reset.flags = 0x02 := by decide

/-- S3 (R23, R24). -/
theorem test_split_and_recombine :
    hiByte 0xBEEF = 0xBE ∧ loByte 0xBEEF = 0xEF ∧ word16 0xBE 0xEF = 0xBEEF := by
  decide

/-! ### Memory keeps one form -/

theorem test_writing_zero_removes_the_entry :
    (memWrite (memWrite z 0x2000 0x12) 0x2000 0x00).mem = zm [] ∧
    (memWrite (memWrite z 0x2000 0x12) 0x1000 0x34).mem = zm [(0x1000, 0x34), (0x2000, 0x12)] := by
  decide

theorem test_wf_refuses_disorder_zero_and_range :
    Memory.wf (zm [(2, 1), (1, 1)]) = false ∧ Memory.wf (zm [(1, 1), (1, 2)]) = false ∧ Memory.wf (zm [(1, 0)]) = false ∧
    Memory.wf (zm [(65536, 1)]) = false ∧ Memory.wf (zm [(0, 1), (65535, 2)]) = true := by
  decide

/-- R371: reset gives memory no content; a written zero is then known, and its neighbour is not. -/
theorem test_reset_knows_no_byte :
    Memory.known State.reset.mem 0x0000 = none ∧ Memory.known State.reset.mem 0xFFFF = none ∧
    Memory.known (memWrite State.reset 0x2000 0x00).mem 0x2000 = some 0 ∧
    Memory.known (memWrite State.reset 0x2000 0x00).mem 0x2001 = none ∧
    Memory.wf (memWrite State.reset 0x2000 0x00).mem = true := by
  decide

/-- R371: the launch's memory is what the first step runs, the bytes it does not name being free. -/
theorem test_launch_runs_the_memory_given :
    seen (fun t => (t.regs.a, t.pc)) (step (State.launch { cells := [(0, 0x3E), (1, 0x5A), (2, 0x76)], rest := none })) =
      some (0x5A, 2) := by
  decide

/-! ### Witnesses: for each obligation with hypotheses, values that meet them -/

theorem witness_DecodeEncodeRoundTrip :
    (Instr.invalid 0xCB).wellFormed = true ∧ (Instr.lxiH 0xFFFF).wellFormed = true ∧ Instr.nop.wellFormed = true := by
  decide

theorem witness_DecodingIsTotal :
    (0x08 : Byte) ∈ [0x08, 0x10, 0x18, 0x20, 0x28, 0x30, 0x38, 0xCB, 0xD9, 0xDD, 0xED, 0xFD] ∧
    (0xFF : Byte) ∉ [0x08, 0x10, 0x18, 0x20, 0x28, 0x30, 0x38, 0xCB, 0xD9, 0xDD, 0xED, 0xFD] := by
  decide

/-- An instruction that wraps past 0xFFFF. -/
def wrapped : State := start [0x21, 0x34, 0x12] { z with pc := 0xFFFE }

theorem witness_StepRunsTheInstructionAtPc : wrapped.halted = false ∧
    (decode [memRead wrapped wrapped.pc, memRead wrapped (wrapped.pc + 1), memRead wrapped (wrapped.pc + 2)]).toOption =
      some (.lxiH 0x1234, []) := by
  decide

theorem witness_StepHasThreeOutcomes :
    { z with halted := true }.halted = true ∧
    ((start [0xFD] z).halted = false ∧ memRead (start [0xFD] z) 0 ∈ invalidOpcodes) ∧
    (z.halted = false ∧ memRead z z.pc ∉ invalidOpcodes) := by
  decide

theorem witness_OnlyInvalidOpcodesFault :
    ((start [0x08] z).halted = false ∧ memRead (start [0x08] z) (start [0x08] z).pc ∈ invalidOpcodes) ∧
    (z.halted = false ∧ memRead z z.pc ∉ invalidOpcodes) ∧ ∀ op, Instr.hlt ≠ .invalid op := by
  decide

theorem witness_CycleCountIsBasePlusPenalty :
    seen (·.cycles) (exec (.jz 0x2000) { z with flags := { zf with z := true } }) = some 16 ∧
    seen (·.cycles) (exec (.jz 0x2000) z) = some 10 ∧ seen (·.cycles) (exec .nop z) = some 4 := by
  decide

theorem witness_FallThroughOrTransfer :
    seen (·.pc) (exec (.cnc 0x2000) z) = some 0x2000 ∧ taken (.cnc 0x2000) z = true ∧
    seen (·.pc) (exec (.cc 0x2000) z) = some 3 ∧ taken (.cc 0x2000) z = false ∧
    seen (·.pc) (exec .nop { z with pc := 0xFFFF }) = some 0 ∧ target z .nop = none := by
  decide

theorem witness_StepKeepsMemoryCanonical : Memory.wf z.mem = true ∧ (seen (·.pc) (step z)).isSome = true := by decide

theorem witness_CanonicalMemoriesAreEqualWhenReadAlike :
    (Memory.wf { cells := [(0, 0x00), (65535, 0x34)], rest := none } = true ∧
      ∀ a, Memory.known { cells := [(0, 0x00), (65535, 0x34)], rest := none } a =
        Memory.known { cells := [(0, 0x00), (65535, 0x34)], rest := none } a) ∧
    Memory.wf (zm [(0, 0x12), (65535, 0x34)]) = true ∧ (zm [(0, 0x12), (65535, 0x34)]).rest = some 0 ∧
    ∀ a, Memory.read (zm [(0, 0x12), (65535, 0x34)]) a = Memory.read (zm [(0, 0x12), (65535, 0x34)]) a :=
  ⟨⟨by decide, fun _ => rfl⟩, by decide, rfl, fun _ => rfl⟩

theorem witness_ResetMemoryIsCanonical : Memory.wf { cells := [(0, 0x00), (65535, 0xFF)], rest := none } = true := by decide

theorem witness_LoaderWritesTheImageOrFails :
    65536 < 65535 + [(0x11 : Byte), 0x22].length ∧ 65535 + [(0x11 : Byte)].length ≤ 65536 ∧
    (hostLoad 65535 [0x11, 0x22] z).isNone = true ∧
    (hostLoad 65535 [0x11] z).map (fun t => (memRead t 0xFFFF, memRead t 0)) = some (0x11, 0) := by
  decide

theorem witness_InteIsWrittenByEiAndDiAndReadByNone :
    seen (·.inte) (exec .ei z) = some true ∧ seen (·.inte) (exec .di { z with inte := true }) = some false ∧
    seen (·.inte) (exec .nop { z with inte := true }) = some true := by
  decide

theorem witness_HaltedIsSetByHltAndNeverCleared :
    seen (·.halted) (exec .hlt z) = some true ∧ seen (·.halted) (exec .nop z) = some false ∧
    seen (·.halted) (exec .nop { z with halted := true }) = some true ∧ { z with halted := true }.halted = true := by
  decide

theorem witness_AuxiliaryCarryIsReadByDaaAndPushPswOnly : Instr.adi 0x01 ≠ .daa ∧ Instr.adi 0x01 ≠ .pushPsw := by decide

theorem witness_FlagsAreWrittenAsTheTableSays :
    flagWrites .cma = .none ∧ flagWrites .stc = .carryOnly ∧ flagWrites .inrM = .allButCarry ∧
    (seen (·.pc) (exec .cma z)).isSome = true ∧ (seen (·.pc) (exec .stc z)).isSome = true ∧
    (seen (·.pc) (exec .inrM z)).isSome = true ∧ flagWrites .addB = .all ∧ flagWrites .cmpA = .all := by
  decide

theorem witness_MemoryFrame :
    (0x0001 : Word) ∉ storesTo z (.shld 0xFFFF) ∧ (0x0000 : Word) ∈ storesTo z (.shld 0xFFFF) ∧
    (0x0000 : Word) ∉ storesTo z .pushB ∧ (0xFFFE : Word) ∈ storesTo z .pushB ∧ (0x0000 : Word) ∉ storesTo z .nop ∧
    (seen (·.pc) (exec (.shld 0xFFFF) z)).isSome = true ∧ (seen (·.pc) (exec .pushB z)).isSome = true := by
  decide

theorem witness_StackPointerFrame :
    writesSp z .cmc = false ∧ writesSp z (.cz 0x2000) = false ∧ writesSp z (.cnz 0x2000) = true ∧
    (seen (·.sp) (exec .cmc z)).isSome = true ∧ seen (·.sp) (exec (.cz 0x2000) z) = some 0 := by
  decide

theorem witness_PortCallsAreMadeByInAndOutOnly :
    seen (·.portIn) (exec (.inPort 0xFF) z) = some 1 ∧ seen (·.portOut.length) (exec (.outPort 0x00) z) = some 1 ∧
    (∀ p, Instr.nop ≠ .inPort p) ∧ (∀ p, Instr.nop ≠ .outPort p) := by
  decide

theorem witness_StoreIsSeenByTheNextFetch :
    { z with pc := 0xFFFD }.halted = false ∧ (0x0000 : Word) = { z with pc := 0xFFFD }.pc + 3 ∧
    (seen (·.pc) (exec (.sta 0x0000) { z with pc := 0xFFFD })) = some 0 := by
  decide

theorem witness_RegistersAndPairsReadBack : Reg.a ≠ Pair.hi .hl ∧ Reg.a ≠ Pair.lo .hl := by decide

theorem witness_DaaReadingsAgreeElsewhere :
    ¬ ((0x99 : Byte).toNat / 16 = 9 ∧ (0x99 : Byte).toNat % 16 ≤ 9 ∧ zf.ac = true ∧ zf.cy = false) ∧
    ¬ (zf.cy = true ∧ (aluDaa .path .carryOut zf 0x9A).2.cy = false) := by
  decide

theorem witness_DaaGivesTheDecimalSum :
    isBcd 0x99 ∧ isBcd 0x00 ∧ (let r := aluAdd zf 0x99 0x99 true
      ((aluDaa .loGt9 .sticky r.2 r.1).1, (aluDaa .loGt9 .sticky r.2 r.1).2.cy)) = (0x99, true) := by
  unfold isBcd
  decide

/-- Both premises about DCR_AC_RULE have a setting that meets them, and one of them holds. -/
theorem witness_Decrements : Config.dcrAcRule = .borrow ∨ Config.dcrAcRule = .nonborrow := by
  cases Config.dcrAcRule <;> decide

theorem witness_Calls : Cond.holds .nz zf = true ∧ Cond.holds .z zf = false := by decide

/-- One start state for each of the three calls. -/
theorem witness_CallThenReturn :
    (seen (·.pc) (exec (.call 0x2000) z)).isSome = true ∧
    (Cond.holds .po z.flags = true ∧ (seen (·.pc) (exec (Instr.ccc .po 0x2000) z)).isSome = true) ∧
    (seen (·.pc) (exec (Instr.rst 7) { z with pc := 0xFFFF, sp := 0x0001 })).isSome = true := by
  decide

theorem witness_PushPswThenPopPswRestores : (seen (·.sp) (exec .pushPsw { z with sp := 0x0001 })) = some 0xFFFF := by
  decide

end Sys2Proof.Tests
end

section
/-! SUPPORT. What exec gives each instruction, as one of 51 families: the case split of the proofs about every
instruction. -/

namespace Sys2Proof.Machine

/-- `Meaning m i`: the instruction `i` belongs to a family whose meaning is `m`. The families are those of Syntax.lean;
each constructor pairs the shared operation with the instruction it gives a meaning to. -/
inductive Meaning : (State → Result) → Instr → Prop where
  | nop : Meaning noOperation .nop
  | mov (dst src : Reg) : Meaning (movReg dst src) (Instr.mov dst src)
  | movFromM (r : Reg) : Meaning (movFromM r) (Instr.movFromM r)
  | movToM (r : Reg) : Meaning (movToM r) (Instr.movToM r)
  | hlt : Meaning halt .hlt
  | mvi (r : Reg) (d8 : Byte) : Meaning (mviRegister r d8) (Instr.mvi r d8)
  | mviM (d8 : Byte) : Meaning (mviMemory d8) (.mviM d8)
  | lxi (q : RegPair) (d16 : Word) : Meaning (loadPairImmediate q d16) (Instr.lxi q d16)
  | inx (q : RegPair) : Meaning (incrementPair q) (Instr.inx q)
  | dcx (q : RegPair) : Meaning (decrementPair q) (Instr.dcx q)
  | dad (q : RegPair) : Meaning (addPairToHl q) (Instr.dad q)
  | ldax (q : IndexPair) : Meaning (loadIndirect q) (Instr.ldax q)
  | stax (q : IndexPair) : Meaning (storeIndirect q) (Instr.stax q)
  | lda (a : Word) : Meaning (loadDirect a) (.lda a)
  | sta (a : Word) : Meaning (storeDirect a) (.sta a)
  | lhld (a : Word) : Meaning (loadHlDirect a) (.lhld a)
  | shld (a : Word) : Meaning (storeHlDirect a) (.shld a)
  | aluOp (k : AluOp) (o : Operand) : Meaning (aluOperand k o) (Instr.aluOp k o)
  | aluImm (k : AluOp) (d8 : Byte) : Meaning (aluImmediate k d8) (Instr.aluImm k d8)
  | daa : Meaning decimalAdjust .daa
  | cma : Meaning complementAccumulator .cma
  | stc : Meaning setCarry .stc
  | cmc : Meaning complementCarry .cmc
  | inr (r : Reg) : Meaning (incrementRegister r) (Instr.inr r)
  | inrM : Meaning incrementMemory .inrM
  | dcr (r : Reg) : Meaning (decrementRegister r) (Instr.dcr r)
  | dcrM : Meaning decrementMemory .dcrM
  | rlc : Meaning rotateLeft .rlc
  | rrc : Meaning rotateRight .rrc
  | ral : Meaning rotateLeftThroughCarry .ral
  | rar : Meaning rotateRightThroughCarry .rar
  | jmp (a : Word) : Meaning (jump a) (.jmp a)
  | jcc (k : Cond) (a : Word) : Meaning (jumpIf k a) (Instr.jcc k a)
  | call (a : Word) : Meaning (callSubroutine a) (.call a)
  | ccc (k : Cond) (a : Word) : Meaning (callIf k a) (Instr.ccc k a)
  | ret : Meaning returnFromCall .ret
  | rcc (k : Cond) : Meaning (returnIf k) (Instr.rcc k)
  | rst (n : Fin 8) : Meaning (restart n) (Instr.rst n)
  | pchl : Meaning jumpToHl .pchl
  | push (q : Pair) : Meaning (pushPair q) (Instr.push q)
  | pushPsw : Meaning pushAccumulatorFlags .pushPsw
  | pop (q : Pair) : Meaning (popPair q) (Instr.pop q)
  | popPsw : Meaning popAccumulatorFlags .popPsw
  | xthl : Meaning exchangeStackTop .xthl
  | sphl : Meaning loadSpFromHl .sphl
  | xchg : Meaning exchangePairs .xchg
  | ei : Meaning enableInterrupts .ei
  | di : Meaning disableInterrupts .di
  | inPort (p : Byte) : Meaning (inputFromPort p) (.inPort p)
  | outPort (p : Byte) : Meaning (outputToPort p) (.outPort p)
  | invalid (op : Byte) : Meaning (raiseInvalidOpcode op) (.invalid op)

/-- Every instruction's arm of `exec` is its family's meaning. -/
theorem meaning_exec (i : Instr) : Meaning (exec i) i := by
  cases i with
  | nop => exact .nop
  | movBB | movBC | movBD | movBE | movBH | movBL | movBA | movCB | movCC | movCD | movCE | movCH | movCL | movCA
  | movDB | movDC | movDD | movDE | movDH | movDL | movDA | movEB | movEC | movED | movEE | movEH | movEL | movEA
  | movHB | movHC | movHD | movHE | movHH | movHL | movHA | movLB | movLC | movLD | movLE | movLH | movLL | movLA
  | movAB | movAC | movAD | movAE | movAH | movAL | movAA => exact .mov _ _
  | movBM | movCM | movDM | movEM | movHM | movLM | movAM => exact .movFromM _
  | movMB | movMC | movMD | movME | movMH | movML | movMA => exact .movToM _
  | hlt => exact .hlt
  | mviB | mviC | mviD | mviE | mviH | mviL | mviA => exact .mvi _ _
  | mviM => exact .mviM _
  | lxiB | lxiD | lxiH | lxiSp => exact .lxi _ _
  | inxB | inxD | inxH | inxSp => exact .inx _
  | dcxB | dcxD | dcxH | dcxSp => exact .dcx _
  | dadB | dadD | dadH | dadSp => exact .dad _
  | ldaxB | ldaxD => exact .ldax _
  | staxB | staxD => exact .stax _
  | lda => exact .lda _
  | sta => exact .sta _
  | lhld => exact .lhld _
  | shld => exact .shld _
  | addB | addC | addD | addE | addH | addL | addM | addA | adcB | adcC | adcD | adcE | adcH | adcL | adcM | adcA
  | subB | subC | subD | subE | subH | subL | subM | subA | sbbB | sbbC | sbbD | sbbE | sbbH | sbbL | sbbM | sbbA
  | anaB | anaC | anaD | anaE | anaH | anaL | anaM | anaA | xraB | xraC | xraD | xraE | xraH | xraL | xraM | xraA
  | oraB | oraC | oraD | oraE | oraH | oraL | oraM | oraA | cmpB | cmpC | cmpD | cmpE | cmpH | cmpL | cmpM
  | cmpA => exact .aluOp _ _
  | adi | aci | sui | sbi | ani | xri | ori | cpi => exact .aluImm _ _
  | daa => exact .daa
  | cma => exact .cma
  | stc => exact .stc
  | cmc => exact .cmc
  | inrB | inrC | inrD | inrE | inrH | inrL | inrA => exact .inr _
  | inrM => exact .inrM
  | dcrB | dcrC | dcrD | dcrE | dcrH | dcrL | dcrA => exact .dcr _
  | dcrM => exact .dcrM
  | rlc => exact .rlc
  | rrc => exact .rrc
  | ral => exact .ral
  | rar => exact .rar
  | jmp => exact .jmp _
  | jnz | jz | jnc | jc | jpo | jpe | jp | jm => exact .jcc _ _
  | call => exact .call _
  | cnz | cz | cnc | cc | cpo | cpe | cp | cm => exact .ccc _ _
  | ret => exact .ret
  | rnz | rz | rnc | rc | rpo | rpe | rp | rm => exact .rcc _
  | rst0 | rst1 | rst2 | rst3 | rst4 | rst5 | rst6 | rst7 => exact .rst _
  | pchl => exact .pchl
  | pushB | pushD | pushH => exact .push _
  | pushPsw => exact .pushPsw
  | popB | popD | popH => exact .pop _
  | popPsw => exact .popPsw
  | xthl => exact .xthl
  | sphl => exact .sphl
  | xchg => exact .xchg
  | ei => exact .ei
  | di => exact .di
  | inPort => exact .inPort _
  | outPort => exact .outPort _
  | invalid => exact .invalid _

end Sys2Proof.Machine
end

section
/-! SUPPORT. What every instruction leaves unchanged of INTE, HALTED, SP and the flags (R26, R28, R33, R34), and which of
INTE and AC it reads. -/

namespace Sys2Proof.Machine

open Sys2Proof.Claims

/-! ### What the tables of the statements say of a family -/

@[simp] theorem writesSp_ccc (s : State) (k : Cond) (a : Word) :
    writesSp s (Instr.ccc k a) = Cond.holds k s.flags := by cases k <;> rfl

@[simp] theorem writesSp_rcc (s : State) (k : Cond) : writesSp s (Instr.rcc k) = Cond.holds k s.flags := by
  cases k <;> rfl

@[simp] theorem writesSp_rst (s : State) (n : Fin 8) : writesSp s (Instr.rst n) = true := by fin_cases n <;> rfl

@[simp] theorem writesSp_push (s : State) (q : Pair) : writesSp s (Instr.push q) = true := by cases q <;> rfl

@[simp] theorem writesSp_pop (s : State) (q : Pair) : writesSp s (Instr.pop q) = true := by cases q <;> rfl

@[simp] theorem flagWrites_aluOp (k : AluOp) (o : Operand) : flagWrites (Instr.aluOp k o) = .all := by
  cases k <;> rcases o with ⟨⟨⟩⟩ | _ <;> rfl

@[simp] theorem flagWrites_aluImm (k : AluOp) (d8 : Byte) : flagWrites (Instr.aluImm k d8) = .all := by
  cases k <;> rfl

@[simp] theorem flagWrites_dad (q : RegPair) : flagWrites (Instr.dad q) = .carryOnly := by
  rcases q with ⟨⟨⟩⟩ | _ <;> rfl

@[simp] theorem flagWrites_inr (r : Reg) : flagWrites (Instr.inr r) = .allButCarry := by cases r <;> rfl

@[simp] theorem flagWrites_dcr (r : Reg) : flagWrites (Instr.dcr r) = .allButCarry := by cases r <;> rfl

/-! ### What a completed instruction has kept -/

section Frames

variable {m : State → Result} {i : Instr} {s t : State}

/-- A conditional jump writes PC and the cycle count only, taken or not. -/
theorem jumpIf_frame {k : Cond} {a : Word} (h : jumpIf k a s = .next t) : t = { s with pc := t.pc, cycles := t.cycles } := by
  rw [jumpIf_eq] at h
  split at h <;> cases h <;> rfl

/-- A conditional call writes SP and memory besides, taken or not. -/
theorem callIf_frame {k : Cond} {a : Word} (h : callIf k a s = .next t) :
    t = { s with sp := t.sp, mem := t.mem, pc := t.pc, cycles := t.cycles } := by
  rw [callIf_eq] at h
  split at h <;> cases h <;> rfl

/-- A conditional return writes SP besides, taken or not. -/
theorem returnIf_frame {k : Cond} (h : returnIf k s = .next t) :
    t = { s with sp := t.sp, pc := t.pc, cycles := t.cycles } := by
  rw [returnIf_eq] at h
  split at h <;> cases h <;> rfl

/-- Only EI and DI write INTE (R33): every other family ends in an update whose laws (Laws/State) keep it. -/
theorem Meaning.inte_eq (d : Meaning m i) (h : m s = .next t) (hei : i ≠ .ei) (hdi : i ≠ .di) : t.inte = s.inte := by
  cases d with
  | ei => exact absurd rfl hei
  | di => exact absurd rfl hdi
  | invalid => cases h
  | jcc => rw [jumpIf_frame h]
  | ccc => rw [callIf_frame h]
  | rcc => rw [returnIf_frame h]
  | _ => cases h; simp

/-- Only HLT writes HALTED (R34). -/
theorem Meaning.halted_eq (d : Meaning m i) (h : m s = .next t) (hhlt : i ≠ .hlt) : t.halted = s.halted := by
  cases d with
  | hlt => exact absurd rfl hhlt
  | invalid => cases h
  | jcc => rw [jumpIf_frame h]
  | ccc => rw [callIf_frame h]
  | rcc => rw [returnIf_frame h]
  | _ => cases h; simp

/-- SP is kept outside the list of R26; a call or return not taken makes no stack access. -/
theorem Meaning.sp_eq (d : Meaning m i) (h : m s = .next t) (hw : writesSp s i = false) : t.sp = s.sp := by
  cases d with
  | invalid => cases h
  | jcc => rw [jumpIf_frame h]
  | ccc => rw [callIf_eq, if_neg (by simpa using hw)] at h; cases h; rfl
  | rcc => rw [returnIf_eq, if_neg (by simpa using hw)] at h; cases h; rfl
  | lxi q | inx q | dcx q =>
    cases q with
    | pair => cases h; rfl
    | sp => cases hw
  | rst | push | pop => simp at hw
  | call | ret | pushPsw | popPsw | sphl => cases hw
  | _ => cases h; simp

/-- The flags `g` differ from the flags `f` at most where `w` says (R28). -/
def FlagFrame (w : FlagWrites) (f g : Flags) : Prop :=
  match w with
  | .none => g = f
  | .carryOnly => g = { f with cy := g.cy }
  | .allButCarry => g.cy = f.cy
  | .all => True

@[simp] theorem flagFrame_self (w : FlagWrites) (f : Flags) : FlagFrame w f f := by cases w <;> simp [FlagFrame]

/-- Each family writes at most the flags of its column of R28. -/
theorem Meaning.flagFrame (d : Meaning m i) (h : m s = .next t) : FlagFrame (flagWrites i) s.flags t.flags := by
  cases d with
  | invalid => cases h
  | jcc => rw [jumpIf_frame h]; exact flagFrame_self _ _
  | ccc => rw [callIf_frame h]; exact flagFrame_self _ _
  | rcc => rw [returnIf_frame h]; exact flagFrame_self _ _
  | aluOp => rw [flagWrites_aluOp]; trivial
  | aluImm => rw [flagWrites_aluImm]; trivial
  | daa | popPsw => trivial
  | dad => cases h; rw [flagWrites_dad]; rfl
  | stc | cmc | rlc | rrc | ral | rar => cases h; rfl
  | inr => cases h; rw [flagWrites_inr]; rfl
  | dcr => cases h; rw [flagWrites_dcr]; rfl
  | inrM | dcrM => cases h; rfl
  | _ => cases h; simp

end Frames

/-! ### What an instruction does not read -/

/-- The state with INTE forgotten. -/
def forgetInte (t : State) : State := { t with inte := false }

/-- The state with AC forgotten. -/
def forgetAc (t : State) : State := { t with flags := { t.flags with ac := false } }

/-- No condition reads AC (R250). -/
@[simp] theorem Cond.holds_ac (k : Cond) (f : Flags) (b : Bool) : Cond.holds k { f with ac := b } = Cond.holds k f := by
  cases k <;> rfl

/-- INTE does not reach what a meaning computes: the two outcomes are the same term once the case of the operand, and
the condition of a transfer, is known. -/
theorem Meaning.inte_unread {m : State → Result} {i : Instr} (d : Meaning m i) (s : State) (b : Bool) :
    mapNext forgetInte (m { s with inte := b }) = mapNext forgetInte (m s) := by
  cases d with
  | jcc => simp only [jumpIf_eq]; split <;> rfl
  | ccc => simp only [callIf_eq]; split <;> rfl
  | rcc => simp only [returnIf_eq]; split <;> rfl
  | lxi q | inx q | dcx q => cases q <;> rfl
  | aluOp k | aluImm k => cases k <;> rfl
  | _ => rfl

/-- Nor does AC, but for DAA and PUSH PSW: the ALU helpers compute the flags they write from their operands and CY. -/
theorem Meaning.ac_unread {m : State → Result} {i : Instr} (d : Meaning m i) (s : State) (b : Bool) (hdaa : i ≠ .daa)
    (hpush : i ≠ .pushPsw) :
    mapNext forgetAc (m { s with flags := { s.flags with ac := b } }) = mapNext forgetAc (m s) := by
  cases d with
  | daa => exact absurd rfl hdaa
  | pushPsw => exact absurd rfl hpush
  | jcc => simp only [jumpIf_eq, Cond.holds_ac]; split <;> rfl
  | ccc => simp only [callIf_eq, Cond.holds_ac]; split <;> rfl
  | rcc => simp only [returnIf_eq, Cond.holds_ac]; split <;> rfl
  | lxi q | inx q | dcx q => cases q <;> rfl
  | aluOp k | aluImm k => cases k <;> rfl
  | _ => rfl

end Sys2Proof.Machine
end

section
/-! SUPPORT. The flags byte (R29 to R31) and PUSH PSW with POP PSW (R301, R303). -/

namespace Sys2Proof.Machine

/-- The places of the flags in F (R29), over the 32 values of the five flags. -/
theorem packF_toNat (f : Flags) : (packF f).toNat =
    f.s.toNat * 128 + f.z.toNat * 64 + f.ac.toNat * 16 + f.p.toNat * 4 + 2 + f.cy.toNat := by
  obtain ⟨cy, ac, z, s, p⟩ := f
  revert cy ac z s p
  decide

/-- Unpacking a packed byte loses no flag. -/
@[simp] theorem unpackF_packF (f : Flags) : unpackF (packF f) = f := by
  obtain ⟨cy, ac, z, s, p⟩ := f
  revert cy ac z s p
  decide

/-- Packing an unpacked byte clears the reserved bits and sets the fixed one (R31), over the 256 bytes. -/
theorem packF_unpackF (b : Byte) : packF (unpackF b) = (b &&& 0xD7) ||| 0x02 := by
  revert b
  decide

theorem exec_pushPsw (s : State) :
    exec .pushPsw s = .next { push16 (psw s) s with pc := s.pc + 1, cycles := 11 } := rfl

theorem exec_popPsw (s : State) :
    exec .popPsw s = .next { s with
      regs := { s.regs with a := hiByte (pop16 s).1 }, flags := unpackF (loByte (pop16 s).1), sp := (pop16 s).2.sp,
      pc := s.pc + 1, cycles := 10 } := rfl

/-- The popped value depends on SP and memory only. -/
theorem pop16_value_congr {s t : State} (hsp : t.sp = s.sp) (hmem : t.mem = s.mem) : (pop16 t).1 = (pop16 s).1 := by
  simp [pop16_value, read16, memRead, hsp, hmem]

/-- POP PSW of a PSW pushed in `s` gives back A, the flags and SP of `s`, whatever came of the rest of the state. -/
theorem exec_popPsw_of_pushed {s t : State} (hsp : t.sp = (push16 (psw s) s).sp)
    (hmem : t.mem = (push16 (psw s) s).mem) :
    exec .popPsw t = .next { t with
      regs := { t.regs with a := s.regs.a }, flags := s.flags, sp := s.sp, pc := t.pc + 1, cycles := 10 } := by
  have hvalue : (pop16 t).1 = psw s := (pop16_value_congr hsp hmem).trans (pop16_push16 (psw s) s)
  have hback : (pop16 t).2.sp = s.sp := by
    rw [pop16_sp, hsp, push16_sp]
    bv_omega
  rw [exec_popPsw, hvalue, hback, psw, hiByte_word16, loByte_word16, unpackF_packF]

end Sys2Proof.Machine
end

section
/-! The statements of spec/10_state.md. -/

namespace Sys2Proof.Machine

/-- Settles O18: EI and DI are the only families that write INTE, and no meaning reads it. -/
theorem inteIsWrittenByEiAndDiAndReadByNone : Obligations.InteIsWrittenByEiAndDiAndReadByNone := by
  unfold Obligations.InteIsWrittenByEiAndDiAndReadByNone
  refine ⟨fun i s t h => ?_, fun i s b => (meaning_exec i).inte_unread s b⟩
  by_cases hei : i = .ei
  · subst hei
    cases h
    rfl
  · by_cases hdi : i = .di
    · subst hdi
      cases h
      rfl
    · rw [if_neg hei, if_neg hdi]
      exact (meaning_exec i).inte_eq h hei hdi

/-- Settles O19: HLT is the only family that writes HALTED, and `step` answers the fault of a halted state. -/
theorem haltedIsSetByHltAndNeverCleared : Obligations.HaltedIsSetByHltAndNeverCleared := by
  unfold Obligations.HaltedIsSetByHltAndNeverCleared
  refine ⟨fun i s t h => ?_, fun _ => rfl, fun s t hs => by simp [step_halted hs]⟩
  by_cases hhlt : i = .hlt
  · subst hhlt
    cases h
    simp
  · simpa [hhlt] using (meaning_exec i).halted_eq h hhlt

/-- Settles O20. -/
theorem auxiliaryCarryIsReadByDaaAndPushPswOnly : Obligations.AuxiliaryCarryIsReadByDaaAndPushPswOnly := by
  unfold Obligations.AuxiliaryCarryIsReadByDaaAndPushPswOnly
  exact fun i s b hdaa hpush => (meaning_exec i).ac_unread s b hdaa hpush

/-- Settles O21, from the flag frame of each family. -/
theorem flagsAreWrittenAsTheTableSays : Obligations.FlagsAreWrittenAsTheTableSays := by
  unfold Obligations.FlagsAreWrittenAsTheTableSays
  intro i s t h
  have hframe := (meaning_exec i).flagFrame h
  refine ⟨fun hw => ?_, fun hw => ?_, fun hw => ?_⟩ <;> rwa [hw] at hframe

/-- Settles O23. -/
theorem stackPointerFrame : Obligations.StackPointerFrame := by
  unfold Obligations.StackPointerFrame
  exact fun i _ _ h hw => (meaning_exec i).sp_eq h hw

/-- Settles O57: the word pushed is the one popped, and unpacking undoes packing. -/
theorem pushPswThenPopPswRestores : Obligations.PushPswThenPopPswRestores := by
  unfold Obligations.PushPswThenPopPswRestores
  intro s t h
  rw [exec_pushPsw] at h
  cases h
  exact ⟨_, exec_popPsw_of_pushed rfl rfl, rfl, rfl, rfl⟩

/-- Settles O14. -/
theorem resetState : Obligations.ResetState := by
  unfold Obligations.ResetState
  refine ⟨fun r => ?_, rfl, rfl, rfl, rfl, rfl, rfl⟩
  cases r <;> rfl

/-- Settles O26. -/
theorem flagsBytePacking : Obligations.FlagsBytePacking := by
  unfold Obligations.FlagsBytePacking
  exact ⟨packF_toNat, unpackF_packF, fun _ => rfl, packF_unpackF⟩

/-- Settles O27. -/
theorem registersAndPairsReadBack : Obligations.RegistersAndPairsReadBack := by
  unfold Obligations.RegistersAndPairsReadBack
  refine ⟨fun _ => rfl, Regs.get_set, fun s => ⟨word16_toNat _ _, word16_toNat _ _, word16_toNat _ _⟩,
    fun s p v => ⟨getPair_setPair s p v, fun r hhi hlo => ?_⟩⟩
  rw [getReg_setPair, if_neg hlo, if_neg hhi]

end Sys2Proof.Machine
end

section
/-! SUPPORT. What every instruction does to memory: one MemWrite at each address it stores to, and nothing else. -/

namespace Sys2Proof.Machine

open Sys2Proof.Claims

/-! ### Memory after a list of stores -/

/-- `Memory.Stores l m m'`: the memory `m'` is `m` after one MemWrite at each address of `l`, in that order. -/
def Memory.Stores : List Word → Memory → Memory → Prop
  | [], m, m' => m' = m
  | a :: l, m, m' => ∃ v, Memory.Stores l (Memory.write m a v) m'

@[simp] theorem Memory.stores_nil {m m' : Memory} : Memory.Stores [] m m' ↔ m' = m := Iff.rfl

/-- Stores keep the canonical form, because each of them does. -/
theorem Memory.Stores.wf {l : List Word} {m m' : Memory} (h : Memory.Stores l m m') (hm : Memory.wf m = true) :
    Memory.wf m' = true := by
  induction l generalizing m with
  | nil => rwa [Memory.stores_nil.mp h]
  | cons a l ih =>
    obtain ⟨v, hv⟩ := h
    exact ih hv (Memory.write_wf a v hm)

/-- A byte at none of the addresses reads as before, because each store changes the byte at its own address only. -/
theorem Memory.Stores.read_eq {l : List Word} {m m' : Memory} {b : Word} (h : Memory.Stores l m m') (hb : b ∉ l) :
    Memory.read m' b = Memory.read m b := by
  induction l generalizing m with
  | nil => rw [Memory.stores_nil.mp h]
  | cons a l ih =>
    obtain ⟨v, hv⟩ := h
    obtain ⟨hba, hbl⟩ := List.ne_and_not_mem_of_not_mem_cons hb
    rw [ih hv hbl, Memory.read_write, if_neg hba]

theorem memWrite_stores (s : State) (a : Word) (v : Byte) : Memory.Stores [a] s.mem (memWrite s a v).mem := ⟨v, rfl⟩

theorem write16_stores (s : State) (a v : Word) : Memory.Stores [a, a + 1] s.mem (write16 s a v).mem := ⟨_, _, rfl⟩

/-- A push stores at SP - 1, then at SP - 2 (R55). -/
theorem push16_stores (v : Word) (s : State) : Memory.Stores [s.sp - 1, s.sp - 2] s.mem (push16 v s).mem := by
  have hsp : s.sp - 2 = s.sp - 1 - 1 := by bv_omega
  rw [hsp]
  exact ⟨_, _, rfl⟩

/-! ### What `storesTo` says of a family -/

@[simp] theorem storesTo_mov (s : State) (dst src : Reg) : storesTo s (Instr.mov dst src) = [] := by
  cases dst <;> cases src <;> rfl

@[simp] theorem storesTo_movFromM (s : State) (r : Reg) : storesTo s (Instr.movFromM r) = [] := by cases r <;> rfl

@[simp] theorem storesTo_movToM (s : State) (r : Reg) : storesTo s (Instr.movToM r) = [hl s] := by cases r <;> rfl

@[simp] theorem storesTo_mvi (s : State) (r : Reg) (d8 : Byte) : storesTo s (Instr.mvi r d8) = [] := by
  cases r <;> rfl

@[simp] theorem storesTo_lxi (s : State) (q : RegPair) (v : Word) : storesTo s (Instr.lxi q v) = [] := by
  rcases q with ⟨⟨⟩⟩ | _ <;> rfl

@[simp] theorem storesTo_inx (s : State) (q : RegPair) : storesTo s (Instr.inx q) = [] := by
  rcases q with ⟨⟨⟩⟩ | _ <;> rfl

@[simp] theorem storesTo_dcx (s : State) (q : RegPair) : storesTo s (Instr.dcx q) = [] := by
  rcases q with ⟨⟨⟩⟩ | _ <;> rfl

@[simp] theorem storesTo_dad (s : State) (q : RegPair) : storesTo s (Instr.dad q) = [] := by
  rcases q with ⟨⟨⟩⟩ | _ <;> rfl

@[simp] theorem storesTo_ldax (s : State) (q : IndexPair) : storesTo s (Instr.ldax q) = [] := by cases q <;> rfl

@[simp] theorem storesTo_stax (s : State) (q : IndexPair) : storesTo s (Instr.stax q) = [indexAddress q s] := by
  cases q <;> rfl

@[simp] theorem storesTo_aluOp (s : State) (k : AluOp) (o : Operand) : storesTo s (Instr.aluOp k o) = [] := by
  cases k <;> rcases o with ⟨⟨⟩⟩ | _ <;> rfl

@[simp] theorem storesTo_aluImm (s : State) (k : AluOp) (d8 : Byte) : storesTo s (Instr.aluImm k d8) = [] := by
  cases k <;> rfl

@[simp] theorem storesTo_inr (s : State) (r : Reg) : storesTo s (Instr.inr r) = [] := by cases r <;> rfl

@[simp] theorem storesTo_dcr (s : State) (r : Reg) : storesTo s (Instr.dcr r) = [] := by cases r <;> rfl

@[simp] theorem storesTo_jcc (s : State) (k : Cond) (a : Word) : storesTo s (Instr.jcc k a) = [] := by
  cases k <;> rfl

@[simp] theorem storesTo_ccc (s : State) (k : Cond) (a : Word) :
    storesTo s (Instr.ccc k a) = if Cond.holds k s.flags then [s.sp - 1, s.sp - 2] else [] := by
  cases k <;> rfl

@[simp] theorem storesTo_rcc (s : State) (k : Cond) : storesTo s (Instr.rcc k) = [] := by cases k <;> rfl

@[simp] theorem storesTo_rst (s : State) (n : Fin 8) : storesTo s (Instr.rst n) = [s.sp - 1, s.sp - 2] := by
  fin_cases n <;> rfl

@[simp] theorem storesTo_push (s : State) (q : Pair) : storesTo s (Instr.push q) = [s.sp - 1, s.sp - 2] := by
  cases q <;> rfl

@[simp] theorem storesTo_pop (s : State) (q : Pair) : storesTo s (Instr.pop q) = [] := by cases q <;> rfl

/-! ### What a completed instruction has stored -/

@[simp] theorem setResult_reg_mem (s : State) (r : Reg) (q : Byte × Flags) : (setResult s (.reg r) q).mem = s.mem := rfl

/-- A conditional call pushes when its condition holds and makes no stack access when not (R262 to R270). -/
theorem callIf_stores {k : Cond} {a : Word} {s t : State} (h : callIf k a s = .next t) :
    Memory.Stores (if Cond.holds k s.flags then [s.sp - 1, s.sp - 2] else []) s.mem t.mem := by
  rw [callIf_eq] at h
  split at h <;> cases h
  next hk => rw [if_pos hk]; exact push16_stores _ s
  next hk => rw [if_neg hk]; rfl

/-- Each family's meaning makes the stores that `storesTo` lists and no other: through HL, an index pair or an address in
the instruction, or by a push. -/
theorem Meaning.stores {m : State → Result} {i : Instr} {s t : State} (d : Meaning m i) (h : m s = .next t) :
    Memory.Stores (storesTo s i) s.mem t.mem := by
  cases d with
  | invalid => cases h
  | jcc => rw [jumpIf_frame h]; simp
  | rcc => rw [returnIf_frame h]; simp
  | ccc => rw [storesTo_ccc]; exact callIf_stores h
  | movToM => cases h; rw [storesTo_movToM]; exact memWrite_stores s (hl s) _
  | mviM | inrM | dcrM => cases h; exact memWrite_stores s (hl s) _
  | stax q => cases h; rw [storesTo_stax]; exact memWrite_stores s (indexAddress q s) _
  | sta a => cases h; exact memWrite_stores s a _
  | shld a => cases h; exact write16_stores s a _
  | xthl => cases h; exact write16_stores s s.sp _
  | push => cases h; rw [storesTo_push]; exact push16_stores _ s
  | rst => cases h; rw [storesTo_rst]; exact push16_stores _ s
  | call | pushPsw => cases h; exact push16_stores _ s
  | mov | movFromM | mvi | lxi | inx | dcx | dad | ldax | aluOp | aluImm | inr | dcr | pop => cases h; simp
  | _ => cases h; exact rfl

end Sys2Proof.Machine
end

section
/-! SUPPORT. The canonical form of a memory is unique (logs 1, 17). -/

namespace Sys2Proof.Machine

theorem Memory.cellsWf_cons {r : Option Byte} {k : Nat} {v : Byte} {l : List Host.Cell} :
    Memory.cellsWf r ((k, v) :: l) = true ↔
      k < 65536 ∧ r ≠ some v ∧ Memory.allAbove k l = true ∧ Memory.cellsWf r l = true := by
  simp only [Memory.cellsWf, Bool.and_eq_true, decide_eq_true_eq, and_assoc]

/-- What is listed is among the cells. -/
theorem Memory.mem_of_find {l : List Host.Cell} {a : Nat} {v : Byte} (h : Memory.find l a = some v) : (a, v) ∈ l := by
  induction l with
  | nil => cases h
  | cons cell l ih =>
    obtain ⟨k, w⟩ := cell
    by_cases hk : k = a
    · rw [Memory.find, if_pos hk, Option.some_inj] at h
      exact hk ▸ h ▸ List.mem_cons_self
    · rw [Memory.find, if_neg hk] at h
      exact List.mem_cons_of_mem _ (ih h)

theorem Memory.find_of_allAbove {l : List Host.Cell} {a k : Nat} (h : Memory.allAbove k l = true) (ha : a ≤ k) :
    Memory.find l a = none := by
  simp only [Memory.allAbove, List.all_eq_true, decide_eq_true_eq] at h
  refine Option.eq_none_iff_forall_ne_some.mpr fun v hv => ?_
  exact absurd (h _ (Memory.mem_of_find hv)) (Nat.not_lt.mpr ha)

/-- Each cell of a canonical list has a 16-bit address and a byte that is not the one named for the rest. -/
theorem Memory.cell_of_cellsWf {r : Option Byte} {l : List Host.Cell} (h : Memory.cellsWf r l = true)
    {a : Nat} {v : Byte} (hc : (a, v) ∈ l) : a < 65536 ∧ r ≠ some v := by
  induction l with
  | nil => cases hc
  | cons cell l ih =>
    obtain ⟨hk, hv, -, hl⟩ := Memory.cellsWf_cons.mp h
    rcases List.mem_cons.mp hc with rfl | htail
    · exact ⟨hk, hv⟩
    · exact ih hl htail

/-- Strictly rising lists that list the same byte for each address are equal: the lesser of two first addresses would be
listed on one side only. -/
theorem Memory.cells_ext {r : Option Byte} {l l' : List Host.Cell} (h : Memory.cellsWf r l = true)
    (h' : Memory.cellsWf r l' = true) (hfind : ∀ a, Memory.find l a = Memory.find l' a) : l = l' := by
  induction l generalizing l' with
  | nil =>
    cases l' with
    | nil => rfl
    | cons cell' l' => simpa [Memory.find] using hfind cell'.1
  | cons cell l ih =>
    cases l' with
    | nil => simpa [Memory.find] using hfind cell.1
    | cons cell' l' =>
      obtain ⟨k, v⟩ := cell
      obtain ⟨j, w⟩ := cell'
      obtain ⟨-, -, habove, hl⟩ := Memory.cellsWf_cons.mp h
      obtain ⟨-, -, habove', hl'⟩ := Memory.cellsWf_cons.mp h'
      have hk := hfind k
      have hj := hfind j
      rcases lt_trichotomy k j with hlt | rfl | hlt
      · simp [Memory.find, hlt.ne', Memory.find_of_allAbove habove' hlt.le] at hk
      · have hvw : v = w := by simpa [Memory.find] using hk
        have htail : ∀ a, Memory.find l a = Memory.find l' a := fun a => by
          rcases le_or_gt a k with hle | hgt
          · rw [Memory.find_of_allAbove habove hle, Memory.find_of_allAbove habove' hle]
          · simpa [Memory.find, hgt.ne] using hfind a
        rw [hvw, ih hl hl' htail]
      · simp [Memory.find, hlt.ne', Memory.find_of_allAbove habove hlt.le] at hj

/-- In canonical form a byte is listed exactly where what is known of it is not what is known of the rest. -/
theorem Memory.find_eq_of_wf {m : Memory} (h : Memory.wf m = true) (a : Word) :
    Memory.find m.cells a.toNat = if Memory.known m a = m.rest then none else Memory.known m a := by
  cases hf : Memory.find m.cells a.toNat with
  | none => simp [Memory.known, hf]
  | some v =>
    obtain ⟨-, hv⟩ := Memory.cell_of_cellsWf h (Memory.mem_of_find hf)
    simp [Memory.known, hf, Ne.symm hv]

/-- Nothing is listed outside the 16-bit space. -/
theorem Memory.find_of_wf_of_le {m : Memory} (h : Memory.wf m = true) {a : Nat} (ha : 65536 ≤ a) :
    Memory.find m.cells a = none := by
  refine Option.eq_none_iff_forall_ne_some.mpr fun v hv => ?_
  exact absurd (Memory.cell_of_cellsWf h (Memory.mem_of_find hv)).1 (Nat.not_lt.mpr ha)

/-- Canonical memories of one named rest of which the same is known are equal. -/
theorem Memory.ext_of_known {m m' : Memory} (h : Memory.wf m = true) (h' : Memory.wf m' = true)
    (hrest : m.rest = m'.rest) (hknown : ∀ a, Memory.known m a = Memory.known m' a) : m = m' := by
  have hfind : ∀ a, Memory.find m.cells a = Memory.find m'.cells a := fun a => by
    rcases Nat.lt_or_ge a 65536 with hlt | hge
    · have hword : (BitVec.ofNat 16 a).toNat = a := Nat.mod_eq_of_lt hlt
      rw [← hword, Memory.find_eq_of_wf h, Memory.find_eq_of_wf h', hknown, hrest]
    · rw [Memory.find_of_wf_of_le h hge, Memory.find_of_wf_of_le h' hge]
  have hcells : m.cells = m'.cells := Memory.cells_ext h (by rw [hrest]; exact h') hfind
  cases m
  cases m'
  exact congr (congrArg Memory.mk hcells) hrest

/-- Where a byte is named for the rest, every byte is known. -/
theorem Memory.known_of_rest {m : Memory} {v : Byte} (h : m.rest = some v) (a : Word) :
    Memory.known m a = some (Memory.read m a) := by
  cases hf : Memory.find m.cells a.toNat <;> simp [Memory.read, Memory.known, h, hf]

end Sys2Proof.Machine
end

section
/-! The statements of spec/20_memory.md. -/

namespace Sys2Proof.Machine

/-- What Write16 stores is what Read16 reads back (R54): the two addresses differ, also where they wrap. -/
theorem read16_write16 (s : State) (a v : Word) : read16 (write16 s a v) a = v := by
  simp [read16, memRead_write16]

/-- Settles O11: an instruction only makes stores, and each store keeps the canonical form. -/
theorem stepKeepsMemoryCanonical : Obligations.StepKeepsMemoryCanonical := by
  unfold Obligations.StepKeepsMemoryCanonical
  intro s t hs h
  obtain ⟨-, hexec⟩ := (step_next_iff s t).mp h
  exact ((meaning_exec (fetchInstr s)).stores hexec).wf hs

/-- Settles O12. -/
theorem canonicalMemoriesAreEqualWhenReadAlike : Obligations.CanonicalMemoriesAreEqualWhenReadAlike := by
  unfold Obligations.CanonicalMemoriesAreEqualWhenReadAlike
  refine fun m m' h h' hrest => ⟨Memory.ext_of_known h h' hrest, fun ⟨v, hv⟩ hread => ?_⟩
  refine Memory.ext_of_known h h' hrest fun a => ?_
  rw [Memory.known_of_rest hv, Memory.known_of_rest (hrest ▸ hv), hread]

/-- Settles O13. -/
theorem memoryReadAfterWrite : Obligations.MemoryReadAfterWrite := by
  unfold Obligations.MemoryReadAfterWrite
  exact fun s a => ⟨fun b v => memRead_memWrite s a b v, fun _ => rfl, word16_toNat _ _,
    fun v => ⟨rfl, read16_write16 s a v, memRead_write16 s a v⟩⟩

/-- Settles O22: an instruction stores at the addresses of `storesTo` only. -/
theorem memoryFrame : Obligations.MemoryFrame := by
  unfold Obligations.MemoryFrame
  exact fun i _ _ h _ ha => ((meaning_exec i).stores h).read_eq ha

/-- Settles O25: the fetch reads memory as the store left it, the opcode byte written and the two bytes after it kept. -/
theorem storeIsSeenByTheNextFetch : Obligations.StoreIsSeenByTheNextFetch := by
  unfold Obligations.StoreIsSeenByTheNextFetch
  intro s t a hs ha h
  have ht : t = { memWrite s a s.regs.a with pc := a, cycles := baseCycles 0x32 } := ha ▸ fallThrough_next h
  have hread : ∀ b, memRead t b = if b = a then s.regs.a else memRead s b := fun b => by
    rw [ht]
    exact memRead_memWrite s a b s.regs.a
  have hpc : t.pc = a := by rw [ht]
  have hrun : t.halted = false := by rw [ht]; exact hs
  have h1 : a + 1 ≠ a := by bv_omega
  have h2 : a + 2 ≠ a := by bv_omega
  rw [step_running hrun, fetchInstr, fetchOpcode, hpc]
  simp only [hread, if_true, if_neg h1, if_neg h2]

end Sys2Proof.Machine
end

section
/-! SUPPORT. The three byte forms of an instruction (R70, R71): the opcode alone, with one byte, or with a 16-bit value, low
byte first. Each form says what the ROM decodes the opcode to and what the encoder gives back. -/

namespace Sys2Proof

/-! ### The decoder at the 12 invalid values (R78) -/

theorem wellFormed_invalid {op : Byte} : (Instr.invalid op).wellFormed = true ↔ op ∈ invalidOpcodes := by
  simp [Instr.wellFormed, isInvalidOpcode]

theorem romEntry_of_invalid {op : Byte} (h : op ∈ invalidOpcodes) : romEntry op = none := by
  have hall : ∀ o ∈ invalidOpcodes, (romEntry o).isNone = true := by decide
  exact Option.isNone_iff_eq_none.mp (hall op h)

theorem decodeOp_of_invalid {op : Byte} (h : op ∈ invalidOpcodes) (b2 b3 : Byte) : decodeOp op b2 b3 = .invalid op := by
  rw [decodeOp, romEntry_of_invalid h]

theorem opLen_of_invalid {op : Byte} (h : op ∈ invalidOpcodes) : opLen op = 1 := by
  rw [opLen, romEntry_of_invalid h]

/-! ### The byte form of an instruction -/

/-- `ByteForm op i`: the instruction `i` is in the set that the opcode byte `op` stands for. That set is one instruction,
or one for each byte d8 or p8 (R73), or one for each d16 or a16 (R74); the ROM, the encoder and the check agree on it. -/
inductive ByteForm (op : Byte) : Instr → Prop where
  | alone {i : Instr} (hlen : opLen op = 1) (hdecode : ∀ b2 b3, decodeOp op b2 b3 = i)
      (hwf : i.wellFormed = true) (hencode : encode i = [op]) : ByteForm op i
  | withByte {f : Byte → Instr} {d8 : Byte} (hlen : opLen op = 2) (hdecode : ∀ b2 b3, decodeOp op b2 b3 = f b2)
      (hwf : ∀ d, (f d).wellFormed = true) (hencode : ∀ d, encode (f d) = [op, d]) : ByteForm op (f d8)
  | withWord {f : Word → Instr} {d16 : Word} (hlen : opLen op = 3)
      (hdecode : ∀ b2 b3, decodeOp op b2 b3 = f (word16 b3 b2))
      (hwf : ∀ w, (f w).wellFormed = true) (hencode : ∀ w, encode (f w) = [op, loByte w, hiByte w]) : ByteForm op (f d16)

/-- The opcode that the encoder builds from the fields of R72 has its instruction's byte form. The cases are the lengths of
R70. Where there is an operand, `dsimp` first drops it from the opcode, which the ROM is then evaluated at. -/
theorem byteForm_opcode (i : Instr) (h : i.wellFormed = true) : ByteForm (opcode i) i := by
  cases i with
  | invalid op =>
    have hop : op ∈ invalidOpcodes := wellFormed_invalid.mp h
    exact .alone (opLen_of_invalid hop) (decodeOp_of_invalid hop) h rfl
  | mviB | mviC | mviD | mviE | mviH | mviL | mviM | mviA | adi | aci | sui | sbi | ani | xri | ori | cpi | inPort
  | outPort =>
    dsimp only [opcode]
    exact .withByte rfl (fun _ _ => rfl) (fun _ => rfl) (fun _ => rfl)
  | lxiB | lxiD | lxiH | lxiSp | sta | lda | shld | lhld | jmp | jnz | jz | jnc | jc | jpo | jpe | jp | jm | call
  | cnz | cz | cnc | cc | cpo | cpe | cp | cm =>
    dsimp only [opcode]
    exact .withWord rfl (fun _ _ => rfl) (fun _ => rfl) (fun _ => rfl)
  | _ => exact .alone rfl (fun _ _ => rfl) rfl rfl

/-- Every opcode byte, by its row `hi` and its column `lo` of the map of R77, is the opcode of an instruction: the one it
decodes to before two zero bytes. -/
theorem byteForm_exists (op : Byte) : ∃ i, ByteForm op i := by
  have hall : ∀ hi lo : Fin 16, (decodeOp (BitVec.ofNat 8 (16 * hi + lo)) 0 0).wellFormed = true ∧
      opcode (decodeOp (BitVec.ofNat 8 (16 * hi + lo)) 0 0) = BitVec.ofNat 8 (16 * hi + lo) := by decide
  have hop : BitVec.ofNat 8 (16 * (op.toNat / 16) + op.toNat % 16) = op := by bv_omega
  obtain ⟨hwf, hopcode⟩ := hall ⟨op.toNat / 16, by bv_omega⟩ ⟨op.toNat % 16, by omega⟩
  rw [hop] at hwf hopcode
  exact ⟨_, hopcode ▸ byteForm_opcode _ hwf⟩

/-! ### What a byte form gives -/

variable {op : Byte} {i : Instr}

/-- Decoding takes the bytes of the encoding, and only those. -/
theorem ByteForm.decode_encode (h : ByteForm op i) (rest : List Byte) : decode (encode i ++ rest) = .ok (i, rest) := by
  cases h with
  | alone hlen hdecode _ hencode | withByte hlen hdecode _ hencode | withWord hlen hdecode _ hencode =>
    simp [hencode, decode, hlen, hdecode]

theorem ByteForm.wellFormed_decodeOp (h : ByteForm op i) (b2 b3 : Byte) : (decodeOp op b2 b3).wellFormed = true := by
  cases h with
  | alone _ hdecode hwf _ | withByte _ hdecode hwf _ | withWord _ hdecode hwf _ => rw [hdecode, hwf]

theorem ByteForm.encode_decodeOp (h : ByteForm op i) (b2 b3 : Byte) :
    encode (decodeOp op b2 b3) = [op, b2, b3].take (opLen op) := by
  cases h with
  | alone hlen hdecode _ hencode | withByte hlen hdecode _ hencode | withWord hlen hdecode _ hencode =>
    simp [hdecode, hencode, hlen]

theorem ByteForm.opcode_decodeOp (h : ByteForm op i) (b2 b3 : Byte) : opcode (decodeOp op b2 b3) = op := by
  cases h with
  | alone _ hdecode _ hencode | withByte _ hdecode _ hencode | withWord _ hdecode _ hencode =>
    rw [hdecode]
    exact (List.cons.inj (hencode ..)).1

/-- A well-formed instruction is what the whole of its encoding decodes to. -/
theorem decodesTo_encode (i : Instr) (h : i.wellFormed = true) : Claims.DecodesTo (encode i) i := by
  have hdecode := (byteForm_opcode i h).decode_encode []
  rwa [List.append_nil] at hdecode

end Sys2Proof
end

section
/-! SUPPORT. What the decoder reads from the operand fields of the opcode (R72): one lemma for each encoding line. -/

namespace Sys2Proof

variable (b2 b3 : Byte)

theorem decodeOp_opMov (dst src : Reg) : decodeOp (opMov (.reg dst) (.reg src)) b2 b3 = Instr.mov dst src := by
  cases dst <;> cases src <;> rfl

theorem decodeOp_opMov_fromM (r : Reg) : decodeOp (opMov (.reg r) .m) b2 b3 = Instr.movFromM r := by cases r <;> rfl

theorem decodeOp_opMov_toM (r : Reg) : decodeOp (opMov .m (.reg r)) b2 b3 = Instr.movToM r := by cases r <;> rfl

theorem decodeOp_opAlu (k : AluOp) (o : Operand) : decodeOp (opAlu k o) b2 b3 = Instr.aluOp k o := by
  cases k <;> rcases o with ⟨⟨⟩⟩ | _ <;> rfl

theorem decodeOp_opAluImm (k : AluOp) : decodeOp (opAluImm k) b2 b3 = Instr.aluImm k b2 := by cases k <;> rfl

theorem decodeOp_opMvi (r : Reg) : decodeOp (opMvi (.reg r)) b2 b3 = Instr.mvi r b2 := by cases r <;> rfl

theorem decodeOp_opInr (r : Reg) : decodeOp (opInr (.reg r)) b2 b3 = Instr.inr r := by cases r <;> rfl

theorem decodeOp_opDcr (r : Reg) : decodeOp (opDcr (.reg r)) b2 b3 = Instr.dcr r := by cases r <;> rfl

theorem decodeOp_opLxi (p : RegPair) : decodeOp (opLxi p) b2 b3 = Instr.lxi p (word16 b3 b2) := by
  rcases p with ⟨⟨⟩⟩ | _ <;> rfl

theorem decodeOp_opInx (p : RegPair) : decodeOp (opInx p) b2 b3 = Instr.inx p := by rcases p with ⟨⟨⟩⟩ | _ <;> rfl

theorem decodeOp_opDcx (p : RegPair) : decodeOp (opDcx p) b2 b3 = Instr.dcx p := by rcases p with ⟨⟨⟩⟩ | _ <;> rfl

theorem decodeOp_opDad (p : RegPair) : decodeOp (opDad p) b2 b3 = Instr.dad p := by rcases p with ⟨⟨⟩⟩ | _ <;> rfl

theorem decodeOp_opLdax (p : IndexPair) : decodeOp (opLdax p) b2 b3 = Instr.ldax p := by cases p <;> rfl

theorem decodeOp_opStax (p : IndexPair) : decodeOp (opStax p) b2 b3 = Instr.stax p := by cases p <;> rfl

theorem decodeOp_opPush (p : Pair) : decodeOp (opPush p) b2 b3 = Instr.push p := by cases p <;> rfl

theorem decodeOp_opPop (p : Pair) : decodeOp (opPop p) b2 b3 = Instr.pop p := by cases p <;> rfl

theorem decodeOp_opJcc (k : Cond) : decodeOp (opJcc k) b2 b3 = Instr.jcc k (word16 b3 b2) := by cases k <;> rfl

theorem decodeOp_opCcc (k : Cond) : decodeOp (opCcc k) b2 b3 = Instr.ccc k (word16 b3 b2) := by cases k <;> rfl

theorem decodeOp_opRcc (k : Cond) : decodeOp (opRcc k) b2 b3 = Instr.rcc k := by cases k <;> rfl

theorem decodeOp_opRst (n : Fin 8) : decodeOp (opRst n) b2 b3 = Instr.rst n := by fin_cases n <;> rfl

end Sys2Proof
end

section
/-! The statements of spec/30_encoding.md. -/

namespace Sys2Proof

/-- Settles O1: the opcode of a well-formed instruction has its byte form. -/
theorem decodeEncodeRoundTrip : Obligations.DecodeEncodeRoundTrip := by
  unfold Obligations.DecodeEncodeRoundTrip
  exact fun i rest h => (byteForm_opcode i h).decode_encode rest

/-- Settles O2: every opcode byte has a byte form. -/
theorem encodeDecodeRoundTrip : Obligations.EncodeDecodeRoundTrip := by
  unfold Obligations.EncodeDecodeRoundTrip
  intro op b2 b3
  obtain ⟨i, hform⟩ := byteForm_exists op
  exact ⟨hform.wellFormed_decodeOp b2 b3, hform.encode_decodeOp b2 b3⟩

/-- Settles O3: the code tables by evaluation, then each encoding line by its lemma. -/
theorem opcodeFieldsSelectOperands : Obligations.OpcodeFieldsSelectOperands := by
  unfold Obligations.OpcodeFieldsSelectOperands
  refine ⟨by decide, fun b2 b3 => ⟨decodeOp_opMov b2 b3, decodeOp_opMov_fromM b2 b3, decodeOp_opMov_toM b2 b3,
    decodeOp_opAlu b2 b3, decodeOp_opAluImm b2 b3, ?destinations, ⟨rfl, rfl, rfl⟩, ?pairs, ?indexPairs, ?stack,
    ⟨rfl, rfl⟩, ?conditions, decodeOp_opRst b2 b3⟩⟩
  case destinations => exact fun r => ⟨decodeOp_opMvi b2 b3 r, decodeOp_opInr b2 b3 r, decodeOp_opDcr b2 b3 r⟩
  case pairs =>
    exact fun p => ⟨decodeOp_opLxi b2 b3 p, decodeOp_opInx b2 b3 p, decodeOp_opDcx b2 b3 p, decodeOp_opDad b2 b3 p⟩
  case indexPairs => exact fun p => ⟨decodeOp_opLdax b2 b3 p, decodeOp_opStax b2 b3 p⟩
  case stack => exact fun p => ⟨decodeOp_opPush b2 b3 p, decodeOp_opPop b2 b3 p⟩
  case conditions => exact fun k => ⟨decodeOp_opJcc b2 b3 k, decodeOp_opCcc b2 b3 k, decodeOp_opRcc b2 b3 k⟩

/-- Settles O5: the invalid form is well formed for the 12 values only, so no other opcode byte decodes to it. -/
theorem decodingIsTotal : Obligations.DecodingIsTotal := by
  unfold Obligations.DecodingIsTotal
  intro op b2 b3
  obtain ⟨i, hform⟩ := byteForm_exists op
  have hwf := hform.wellFormed_decodeOp b2 b3
  have hop := hform.opcode_decodeOp b2 b3
  refine ⟨fun hinvalid => decodeOp_of_invalid hinvalid b2 b3, fun hvalid => ⟨hop, hwf, fun o ho => hvalid ?_⟩⟩
  rw [ho] at hwf hop
  exact hop ▸ wellFormed_invalid.mp hwf

/-- Settles O4: each word is the encoding of its instruction. -/
theorem specWordsDecode : Obligations.SpecWordsDecode := by
  unfold Obligations.SpecWordsDecode
  exact ⟨decodesTo_encode .movBC rfl, decodesTo_encode .hlt rfl, decodesTo_encode .adcM rfl,
    decodesTo_encode (.ani 0x0F) rfl, decodesTo_encode (.lxiH 0x1234) rfl, decodesTo_encode (.sta 0x05B3) rfl,
    decodesTo_encode .dcrM rfl, decodesTo_encode .rar rfl, decodesTo_encode (.jm 0x1234) rfl,
    decodesTo_encode (.call 0x0500) rfl, decodesTo_encode .rst2 rfl, decodesTo_encode .pushPsw rfl,
    decodesTo_encode (.inPort 0x10) rfl, decodesTo_encode (.invalid 0xCB) rfl⟩

end Sys2Proof
end

section
/-! SUPPORT. Z, S and P of a result (R100, R101), the addition (R102) and the decimal adjust (R108) in arithmetic. -/

namespace Sys2Proof.Machine

open Sys2Proof.Claims

/-! ### Parity and the refresh of Z, S and P -/

/-- The bit count of R100 is that of the list of bit numbers. -/
theorem popcount_eq_countP (v : Byte) : popcount v = (List.range 8).countP (fun k => v.getLsbD k) := by
  rw [popcount, show List.range 8 = [0, 1, 2, 3, 4, 5, 6, 7] from rfl]
  simp only [List.countP_cons, List.countP_nil, Bool.toNat, Bool.cond_eq_ite]
  omega

theorem parity_eq_evenParity (v : Byte) : parity v = evenParity v := by
  rw [parity, popcount_eq_countP, evenParity]

/-- The flags SetZSP writes are those of the result, read as a number and by its top bit. -/
theorem zspOf_setZSP (f : Flags) (v : Byte) : ZspOf (setZSP f v) v := by
  refine ⟨?_, ?_, parity_eq_evenParity v⟩
  · simp [BitVec.toNat_eq]
  · simp [BitVec.msb_eq_getLsbD_last]

/-! ### AluAdd -/

section Add

variable (f : Flags) (x y : Byte) (cin : Bool)

theorem aluAdd_toNat : (aluAdd f x y cin).1.toNat = (x.toNat + y.toNat + cin.toNat) % 256 :=
  BitVec.toNat_ofNat ..

theorem aluAdd_cy : (aluAdd f x y cin).2.cy = decide (255 < x.toNat + y.toNat + cin.toNat) := rfl

theorem aluAdd_ac : (aluAdd f x y cin).2.ac = decide (15 < loNibble x + loNibble y + cin.toNat) := rfl

end Add

/-! ### AluDaa -/

/-- The low correction of R108 applies (lowpath). -/
def daaLowApplies (f : Flags) (a : Byte) : Bool := decide (loNibble a > 9) || f.ac

/-- The high correction of R108 applies, for a reading of its third trigger. -/
def daaHighApplies (trigger : Config.DaaHighTrigger) (f : Flags) (a : Byte) : Bool :=
  decide (hiNibble a > 9) || f.cy ||
    (decide (hiNibble a ≥ 9) && (decide (loNibble a > 9) || (f.ac && decide (trigger = .path))))

/-- The byte that R108 adds. -/
def daaCorrection (trigger : Config.DaaHighTrigger) (f : Flags) (a : Byte) : Byte :=
  (if daaLowApplies f a then 0x06 else 0x00) ||| (if daaHighApplies trigger f a then 0x60 else 0x00)

section Daa

variable (trigger : Config.DaaHighTrigger) (rule : Config.DaaCarryRule) (f : Flags) (a : Byte)

/-- The two parts of the correction have no bit in common. -/
theorem daaCorrection_toNat : (daaCorrection trigger f a).toNat =
    (if daaLowApplies f a then 6 else 0) + (if daaHighApplies trigger f a then 0x60 else 0) := by
  rw [daaCorrection]
  cases daaLowApplies f a <;> cases daaHighApplies trigger f a <;> rfl

/-- AluDaa in terms of its correction: the reading of the trigger has no other use. -/
theorem aluDaa_eq : aluDaa trigger rule f a =
    let sum := a.toNat + (daaCorrection trigger f a).toNat
    (BitVec.ofNat 8 sum, setZSP { f with
      ac := decide (loNibble a + loNibble (daaCorrection trigger f a) > 0x0F),
      cy := decide (sum > 0xFF) || (f.cy && decide (rule = .sticky)) } (BitVec.ofNat 8 sum)) := rfl

theorem aluDaa_toNat :
    (aluDaa trigger rule f a).1.toNat = (a.toNat + (daaCorrection trigger f a).toNat) % 256 := by
  rw [aluDaa_eq]
  exact BitVec.toNat_ofNat ..

theorem aluDaa_cy : (aluDaa trigger rule f a).2.cy =
    (decide (255 < a.toNat + (daaCorrection trigger f a).toNat) || (f.cy && decide (rule = .sticky))) := rfl

/-- Under lo_gt_9 the high correction is made for CY or a byte above 0x99. -/
theorem daaHighApplies_loGt9 : daaHighApplies .loGt9 f a = (f.cy || decide (0x99 < a.toNat)) := by
  have habove : 0x99 < a.toNat ↔ hiNibble a > 9 ∨ hiNibble a ≥ 9 ∧ loNibble a > 9 := by
    unfold hiNibble loNibble
    omega
  rw [Bool.eq_iff_iff]
  simp [daaHighApplies, habove, or_comm, or_assoc]

/-- The two readings of the trigger decide alike outside the case that D2 names: AC = 0 makes them the same condition,
CY = 1 makes the correction under both, and else only a high nibble of 9 over a decimal low nibble tells them apart. -/
theorem daaHighApplies_path_eq_loGt9
    (h : ¬ (a.toNat / 16 = 9 ∧ a.toNat % 16 ≤ 9 ∧ f.ac = true ∧ f.cy = false)) :
    daaHighApplies .path f a = daaHighApplies .loGt9 f a := by
  cases hac : f.ac with
  | false => simp [daaHighApplies, hac]
  | true =>
    cases hcy : f.cy with
    | true => simp [daaHighApplies, hcy]
    | false =>
      have hcase : hiNibble a > 9 ∨ hiNibble a ≥ 9 ↔ hiNibble a > 9 ∨ hiNibble a ≥ 9 ∧ loNibble a > 9 := by
        have hnot : ¬ (hiNibble a = 9 ∧ loNibble a ≤ 9) := fun ⟨hhi, hlo⟩ => h ⟨hhi, hlo, hac, hcy⟩
        omega
      rw [Bool.eq_iff_iff]
      simpa [daaHighApplies, hac, hcy] using hcase

end Daa

/-! ### DAA after an addition -/

section DaaAfterAdd

variable (f : Flags) (x y : Byte) (cin : Bool)

/-- After an addition, lowpath says whether the sum of the low nibbles is above 9: the nibble's own overflow is in AC. -/
theorem daaLowApplies_aluAdd : daaLowApplies (aluAdd f x y cin).2 (aluAdd f x y cin).1 =
    decide (9 < loNibble x + loNibble y + cin.toNat) := by
  have hcin := cin.toNat_le
  rw [daaLowApplies, aluAdd_ac, Bool.eq_iff_iff]
  simp only [Bool.or_eq_true, decide_eq_true_eq]
  rw [loNibble, loNibble, loNibble, aluAdd_toNat]
  omega

/-- Under lo_gt_9, the high correction says whether the whole sum is above 0x99: its overflow is in CY. -/
theorem daaHighApplies_aluAdd : daaHighApplies .loGt9 (aluAdd f x y cin).2 (aluAdd f x y cin).1 =
    decide (0x99 < x.toNat + y.toNat + cin.toNat) := by
  have hcin := cin.toNat_le
  rw [daaHighApplies_loGt9, aluAdd_cy, aluAdd_toNat, Bool.eq_iff_iff]
  simp only [Bool.or_eq_true, decide_eq_true_eq]
  omega

/-- The correction after an addition, by the sum of the low nibbles and the whole sum. -/
theorem daaCorrection_aluAdd : (daaCorrection .loGt9 (aluAdd f x y cin).2 (aluAdd f x y cin).1).toNat =
    (if 9 < loNibble x + loNibble y + cin.toNat then 6 else 0) +
      (if 0x99 < x.toNat + y.toNat + cin.toNat then 0x60 else 0) := by
  simp only [daaCorrection_toNat, daaLowApplies_aluAdd, daaHighApplies_aluAdd, decide_eq_true_eq]

theorem aluDaa_aluAdd_toNat (rule : Config.DaaCarryRule) :
    (aluDaa .loGt9 rule (aluAdd f x y cin).2 (aluAdd f x y cin).1).1.toNat =
      (x.toNat + y.toNat + cin.toNat +
        ((if 9 < loNibble x + loNibble y + cin.toNat then 6 else 0) +
          (if 0x99 < x.toNat + y.toNat + cin.toNat then 0x60 else 0))) % 256 := by
  rw [aluDaa_toNat, daaCorrection_aluAdd, aluAdd_toNat, Nat.mod_add_mod]

/-- Under sticky, CY after DAA says that the high correction was made: a sum of 0x9A to 0x9F has a low nibble above 9,
and both corrections together carry it out. -/
theorem aluDaa_aluAdd_cy : (aluDaa .loGt9 .sticky (aluAdd f x y cin).2 (aluAdd f x y cin).1).2.cy =
    decide (0x99 < x.toNat + y.toNat + cin.toNat) := by
  have hcin := cin.toNat_le
  rw [aluDaa_cy, daaCorrection_aluAdd, aluAdd_toNat, aluAdd_cy, Bool.eq_iff_iff]
  simp only [Bool.or_eq_true, Bool.and_eq_true, decide_eq_true_eq, and_true]
  unfold loNibble
  split_ifs <;> omega

end DaaAfterAdd

end Sys2Proof.Machine
end

section
/-! The statements of spec/40_flags_alu.md. -/

namespace Sys2Proof.Machine

open Sys2Proof.Claims

/-- Settles O37: the trigger decides the high correction only, the rule the new CY only. -/
theorem daaReadingsAgreeElsewhere : Obligations.DaaReadingsAgreeElsewhere := by
  unfold Obligations.DaaReadingsAgreeElsewhere
  intro f a rule trigger
  refine ⟨fun h => ?trigger, fun h => ?rule⟩
  case trigger => rw [aluDaa_eq, aluDaa_eq, daaCorrection, daaHighApplies_path_eq_loGt9 f a h, daaCorrection]
  case rule =>
    rw [aluDaa_cy] at h
    have hcy : f.cy = true → 255 < a.toNat + (daaCorrection trigger f a).toNat := by simpa using h
    cases hf : f.cy with
    | false => simp [aluDaa_eq, hf]
    | true => simp [aluDaa_eq, hf, hcy hf]

/-- Settles O38: the low correction carries the low digits' sum into the high digit, the high correction a sum above 0x99
into the hundreds. -/
theorem daaGivesTheDecimalSum : Obligations.DaaGivesTheDecimalSum := by
  unfold Obligations.DaaGivesTheDecimalSum
  intro f x y cin hx hy r d
  have hvalue : d.1.toNat = _ := aluDaa_aluAdd_toNat f x y cin .sticky
  have hcy : d.2.cy = decide (0x99 < x.toNat + y.toNat + cin.toNat) := aluDaa_aluAdd_cy f x y cin
  have hcin := cin.toNat_le
  obtain ⟨hxhi, hxlo⟩ := hx
  obtain ⟨hyhi, hylo⟩ := hy
  unfold isBcd bcdValue
  unfold loNibble at hvalue
  by_cases hhundred : 0x99 < x.toNat + y.toNat + cin.toNat
  · rw [if_pos hhundred] at hvalue
    rw [hcy, decide_eq_true hhundred, Bool.toNat_true]
    split_ifs at hvalue <;> omega
  · rw [if_neg hhundred] at hvalue
    rw [hcy, decide_eq_false hhundred, Bool.toNat_false]
    split_ifs at hvalue <;> omega

/-- Settles O28. -/
theorem zeroSignParityRefresh : Obligations.ZeroSignParityRefresh := by
  unfold Obligations.ZeroSignParityRefresh
  exact fun f v => ⟨parity_eq_evenParity v, zspOf_setZSP f v, setZSP_cy f v, setZSP_ac f v⟩

end Sys2Proof.Machine
end

section
/-! SUPPORT. What the ROM says of an opcode's length and cycles, and what the fetched bytes decode to (R132 to R135). -/

namespace Sys2Proof

variable {op : Byte} {i : Instr}

theorem ByteForm.length_encode (h : ByteForm op i) : (encode i).length = opLen op := by
  cases h with
  | alone hlen _ _ hencode | withByte hlen _ _ hencode | withWord hlen _ _ hencode => simp [hencode, hlen]

/-- Reading the bytes a shorter instruction does not use makes no difference (R133). -/
theorem ByteForm.decode_fetched (h : ByteForm op i) (b2 b3 : Byte) :
    decode [op, b2, b3] = .ok (decodeOp op b2 b3, [op, b2, b3].drop (opLen op)) := by
  cases h with
  | alone hlen hdecode _ _ | withByte hlen hdecode _ _ | withWord hlen hdecode _ _ => simp [decode, hlen, hdecode]

/-- At an invalid opcode byte (R78) there is the invalid form only, because its length is 1 and it decodes to that form. -/
theorem ByteForm.eq_invalid (h : ByteForm op i) (hop : op ∈ invalidOpcodes) : i = .invalid op := by
  cases h with
  | alone _ hdecode => rw [← hdecode 0 0, decodeOp_of_invalid hop]
  | withByte hlen | withWord hlen => rw [opLen_of_invalid hop] at hlen; cases hlen

/-- A base cycle cost of 0 is that of the 12 invalid values only (R138, R139), over the 256 opcodes. -/
theorem one_le_baseCycles (h : op ∉ invalidOpcodes) : 1 ≤ baseCycles op := by
  revert op
  decide

end Sys2Proof
end

section
/-! SUPPORT. How a step ends (R136 to R139): falling through, at the target of a transfer, or in the core's one fault. -/

namespace Sys2Proof.Machine

open Sys2Proof.Claims

/-! ### How an instruction ends -/

/-- `Ending i s r`: `r` is how the instruction `i` ends in the state `s`, by one of the shared ends of a step; `u` is the
state its effect has made before PC and the cycle count are written, that of a conditional transfer when it is taken. -/
inductive Ending (i : Instr) (s : State) : Result → Prop where
  | fallsThrough (u : State) (hcondition : condition i = none) (htarget : target s i = none) (hpc : u.pc = s.pc) :
      Ending i s (fallThrough (opcode i) u)
  | jumps {a : Word} (u : State) (hcondition : condition i = none) (htarget : target s i = some a) :
      Ending i s (jumpTo (opcode i) a u)
  | conditional {k : Cond} {a : Word} (u : State) (hcondition : condition i = some k) (htarget : target s i = some a) :
      Ending i s (if Cond.holds k s.flags then jumpTaken (opcode i) a u else fallThrough (opcode i) s)
  | raises {op : Byte} (hinvalid : i = .invalid op) : Ending i s (raiseInvalidOpcode op s)

/-- Every arm of `exec` ends so: the conditional transfers of R250, the others of R137, the invalid opcodes of R139, and all
the rest, HLT among them, falling through. -/
theorem exec_ending (i : Instr) (s : State) : Ending i s (exec i s) := by
  cases i with
  | jnz | jz | jnc | jc | jpo | jpe | jp | jm | cnz | cz | cnc | cc | cpo | cpe | cp | cm
  | rnz | rz | rnc | rc | rpo | rpe | rp | rm => exact .conditional _ rfl rfl
  | jmp | call | ret | rst0 | rst1 | rst2 | rst3 | rst4 | rst5 | rst6 | rst7 | pchl => exact .jumps _ rfl rfl
  | invalid => exact .raises rfl
  | _ => exact .fallsThrough _ rfl rfl rfl

/-! ### What an ending gives -/

section Ends

variable {i : Instr} {s t : State} {r : Result}

theorem taken_of_condition_some {k : Cond} (h : condition i = some k) : taken i s = Cond.holds k s.flags := by
  rw [taken, h]

theorem taken_of_condition_none (h : condition i = none) : taken i s = true := by
  rw [taken, h]

/-- Only an invalid opcode has no next state. -/
theorem Ending.completes (e : Ending i s r) (hi : ∀ op, i ≠ .invalid op) : ∃ t, r = .next t := by
  cases e with
  | fallsThrough | jumps => exact ⟨_, rfl⟩
  | conditional => split <;> exact ⟨_, rfl⟩
  | raises hinvalid => exact absurd hinvalid (hi _)

/-- PC after the step (R136, R137). -/
theorem Ending.pc_eq (e : Ending i s r) (h : r = .next t) : t.pc =
    if taken i s = true then (target s i).getD (nextPc (opcode i) s) else nextPc (opcode i) s := by
  cases e with
  | fallsThrough u hcondition htarget hpc =>
    rw [fallThrough_next h]
    simp [htarget, nextPc, hpc]
  | jumps u hcondition htarget =>
    rw [jumpTo_next h]
    simp [taken_of_condition_none hcondition, htarget]
  | conditional u hcondition htarget =>
    rw [taken_of_condition_some hcondition, htarget]
    split at h
    next hk => rw [jumpTaken_next h, if_pos hk]; rfl
    next hk => rw [fallThrough_next h, if_neg hk]
  | raises => cases h

/-- The cycle count of the step (R138). -/
theorem Ending.cycles_eq (e : Ending i s r) (h : r = .next t) : t.cycles =
    baseCycles (opcode i) + if (condition i).isSome ∧ taken i s = true then takenPenalty else 0 := by
  cases e with
  | fallsThrough u hcondition =>
    rw [fallThrough_next h]
    simp [hcondition]
  | jumps u hcondition =>
    rw [jumpTo_next h]
    simp [hcondition]
  | conditional u hcondition =>
    rw [taken_of_condition_some hcondition, hcondition]
    split at h
    next hk => rw [jumpTaken_next h, if_pos ⟨rfl, hk⟩]
    next hk => rw [fallThrough_next h, if_neg fun hboth => hk hboth.2]; rfl
  | raises => cases h

/-! ### What `exec` gives -/

theorem exec_completes (s : State) (hi : ∀ op, i ≠ .invalid op) : ∃ t, exec i s = .next t :=
  (exec_ending i s).completes hi

/-- An instruction that completes is well formed: it is none of the invalid form. -/
theorem wellFormed_of_exec_next (h : exec i s = .next t) : i.wellFormed = true := by
  cases i with
  | invalid => cases h
  | _ => rfl

/-- The base cost of an instruction that completes is not the 0 of an invalid opcode. -/
theorem one_le_baseCycles_of_exec_next (h : exec i s = .next t) : 1 ≤ baseCycles (opcode i) := by
  have hform := byteForm_opcode i (wellFormed_of_exec_next h)
  refine one_le_baseCycles fun hop => ?_
  rw [hform.eq_invalid hop] at h
  cases h

theorem one_le_cycles_of_exec_next (h : exec i s = .next t) : 1 ≤ t.cycles := by
  rw [(exec_ending i s).cycles_eq h]
  exact Nat.le_add_right_of_le (one_le_baseCycles_of_exec_next h)

end Ends

/-! ### What a step of a running core gives -/

section Running

variable {s : State} (hrun : s.halted = false)

include hrun

/-- An invalid opcode at PC raises the core's fault (R139). -/
theorem step_of_invalidOpcode (hop : memRead s s.pc ∈ invalidOpcodes) :
    step s = .fault (.invalidOpcode (memRead s s.pc) s.pc) := by
  rw [step_running hrun, fetchInstr, fetchOpcode, decodeOp_of_invalid hop]
  rfl

/-- Every other opcode at PC is that of an instruction that completes. -/
theorem step_completes (hop : memRead s s.pc ∉ invalidOpcodes) : ∃ t, step s = .next t := by
  rw [step_running hrun]
  obtain ⟨-, -, hvalid⟩ := (decodingIsTotal (memRead s s.pc) (memRead s (s.pc + 1)) (memRead s (s.pc + 2))).2 hop
  exact exec_completes s hvalid

end Running

end Sys2Proof.Machine
end

section
/-! The statements of spec/41_dispatcher.md. -/

namespace Sys2Proof.Machine

/-- Settles O7: a halted core stops before the fetch, an invalid opcode raises the fault, and every other completes. -/
theorem stepHasThreeOutcomes : Obligations.StepHasThreeOutcomes := by
  unfold Obligations.StepHasThreeOutcomes
  refine fun s => ⟨fun h => ⟨step_halted h, returnedCycles_halted h⟩, fun hrun hop => ?invalid, fun hrun hop => ?valid⟩
  case invalid =>
    rw [step_of_invalidOpcode hrun hop]
    exact ⟨rfl, rfl⟩
  case valid =>
    obtain ⟨t, hstep⟩ := step_completes hrun hop
    obtain ⟨-, hexec⟩ := (step_next_iff s t).mp hstep
    rw [hstep]
    exact ⟨t, rfl, rfl, one_le_cycles_of_exec_next hexec⟩

/-- Settles O9, from the ending of each instruction. -/
theorem cycleCountIsBasePlusPenalty : Obligations.CycleCountIsBasePlusPenalty := by
  unfold Obligations.CycleCountIsBasePlusPenalty
  exact fun i s t h => ⟨(exec_ending i s).cycles_eq h, one_le_cycles_of_exec_next h⟩

/-- Settles O10: the length that the ROM gives the opcode is that of the encoding. -/
theorem fallThroughOrTransfer : Obligations.FallThroughOrTransfer := by
  unfold Obligations.FallThroughOrTransfer
  intro i s t h
  rw [(byteForm_opcode i (wellFormed_of_exec_next h)).length_encode]
  exact (exec_ending i s).pc_eq h

/-- Settles O6: what the three bytes at PC decode to is the instruction fetched, whatever its length. -/
theorem stepRunsTheInstructionAtPc : Obligations.StepRunsTheInstructionAtPc := by
  unfold Obligations.StepRunsTheInstructionAtPc
  intro s i rest hrun hdecode
  obtain ⟨_, hform⟩ := byteForm_exists (memRead s s.pc)
  rw [hform.decode_fetched] at hdecode
  cases hdecode
  exact step_running hrun

end Sys2Proof.Machine
end

section
/-! SUPPORT. The parts of a statement about one instruction: its bytes decode to it, and its writes of one register or of
one byte of memory are all it writes there. Then the moves (R150 to R152) in these terms. -/

namespace Sys2Proof.Machine

open Sys2Proof.Claims

/-! ### Bytes, registers and memory as the statements name them -/

/-- An opcode byte of length 1 (R70) is a whole instruction: what the ROM decodes it to, whatever follows it. -/
theorem decodesTo_singleton {op : Byte} {i : Instr} (hlen : opLen op = 1) (hdecode : ∀ b2 b3, decodeOp op b2 b3 = i) :
    DecodesTo [op] i := by
  simp [DecodesTo, decode, hlen, hdecode]

theorem wroteReg_setReg (s : State) (r : Reg) (v : Byte) : WroteReg s (setReg s r v).regs r v :=
  fun r' => Regs.get_set s.regs r r' v

theorem sameMemory_self (s : State) : SameMemory s s.mem := fun _ => rfl

theorem storedByte_memWrite (s : State) (a : Word) (v : Byte) : StoredByte s (memWrite s a v).mem a v :=
  fun x => memRead_memWrite s a x v

/-! ### The moves -/

/-- Every opcode of the block 0x40 to 0x7F is one byte long, HLT in the place of MOV M,M among them. -/
theorem opLen_opMov (dst src : Operand) : opLen (opMov dst src) = 1 := by
  rcases dst with ⟨⟨⟩⟩ | _ <;> rcases src with ⟨⟨⟩⟩ | _ <;> rfl

theorem exec_mov (dst src : Reg) (s : State) :
    exec (Instr.mov dst src) s = .next { setReg s dst (getReg s src) with pc := s.pc + 1, cycles := 5 } := by
  cases dst <;> cases src <;> rfl

theorem exec_movFromM (r : Reg) (s : State) :
    exec (Instr.movFromM r) s = .next { setReg s r (memRead s (hl s)) with pc := s.pc + 1, cycles := 7 } := by
  cases r <;> rfl

theorem exec_movToM (r : Reg) (s : State) :
    exec (Instr.movToM r) s = .next { memWrite s (hl s) (getReg s r) with pc := s.pc + 1, cycles := 7 } := by
  cases r <;> rfl

end Sys2Proof.Machine
end

section
/-! The statements of spec/42_move_halt.md. -/

namespace Sys2Proof

open Machine

/-- Settles O29: the move is one register write, of the byte the source register held before it. -/
theorem movRegisterToRegister : Obligations.MovRegisterToRegister := by
  unfold Obligations.MovRegisterToRegister
  refine fun dst src s => ⟨?decodes, _, exec_mov dst src s, rfl, ?wrote, rfl, rfl, sameMemory_self s⟩
  case decodes =>
    exact decodesTo_singleton (opLen_opMov (.reg dst) (.reg src)) fun b2 b3 => decodeOp_opMov b2 b3 dst src
  case wrote => exact wroteReg_setReg s dst (getReg s src)

/-- Settles O30: MOV r,M is one register write, MOV M,r one memory write, each with HL as it was before the move. -/
theorem movFromAndToMemory : Obligations.MovFromAndToMemory := by
  unfold Obligations.MovFromAndToMemory
  refine fun r s => ⟨?fromDecodes, ?toDecodes, ⟨_, exec_movFromM r s, rfl, ?loaded, rfl, rfl, sameMemory_self s⟩,
    ⟨_, exec_movToM r s, rfl, rfl, rfl, rfl, ?stored⟩⟩
  case fromDecodes =>
    exact decodesTo_singleton (opLen_opMov (.reg r) .m) fun b2 b3 => decodeOp_opMov_fromM b2 b3 r
  case toDecodes => exact decodesTo_singleton (opLen_opMov .m (.reg r)) fun b2 b3 => decodeOp_opMov_toM b2 b3 r
  case loaded => exact wroteReg_setReg s r (memRead s (hl s))
  case stored => exact storedByte_memWrite s (hl s) (getReg s r)

/-- Settles O31: 0x76 is the encoding of HLT, whose fall-through is at PC + 1 with the base cost of the ROM. -/
theorem halt : Obligations.Halt := by
  unfold Obligations.Halt
  exact fun _ => ⟨decodesTo_encode .hlt rfl, rfl⟩

end Sys2Proof
end

section
/-! SUPPORT. The accumulator operations (R160 to R179) in the terms of the statements: their encodings, what `Runs` asks of
them, and the subtraction (R103) and the decimal adjust (R108) in arithmetic. -/

namespace Sys2Proof.Machine

open Sys2Proof.Claims

/-! ### Encodings -/

/-- An opcode byte of length 2 (R70) and its operand byte are a whole instruction. -/
theorem decodesTo_pair {op b2 : Byte} {i : Instr} (hlen : opLen op = 2) (hdecode : ∀ b3, decodeOp op b2 b3 = i) :
    DecodesTo [op, b2] i := by
  simp [DecodesTo, decode, hlen, hdecode]

/-- Every opcode of the block 0x80 to 0xBF is one byte long. -/
theorem opLen_opAlu (k : AluOp) (o : Operand) : opLen (opAlu k o) = 1 := by
  cases k <;> rcases o with ⟨⟨⟩⟩ | _ <;> rfl

theorem decodesTo_aluOp (k : AluOp) (o : Operand) : DecodesTo [opAlu k o] (Instr.aluOp k o) :=
  decodesTo_singleton (opLen_opAlu k o) fun b2 b3 => decodeOp_opAlu b2 b3 k o

theorem opLen_opAluImm (k : AluOp) : opLen (opAluImm k) = 2 := by cases k <;> rfl

theorem decodesTo_aluImm (k : AluOp) (d8 : Byte) : DecodesTo [opAluImm k, d8] (Instr.aluImm k d8) :=
  decodesTo_pair (opLen_opAluImm k) fun b3 => decodeOp_opAluImm d8 b3 k

/-! ### Runs -/

section Runs

variable {s : State} {post : Regs → Word → Flags → Memory → Prop}

theorem readOperand_eq_operandValue (o : Operand) (s : State) : readOperand s o = operandValue s o := by cases o <;> rfl

/-- A write of A and the flags keeps every other register. -/
theorem get_setAccumulator_of_ne (s : State) (q : Byte × Flags) {r : Reg} (h : r ≠ .a) :
    Regs.get (setAccumulator s q).regs r = Regs.get s.regs r :=
  (Regs.get_set s.regs .a r q.1).trans (if_neg h)

/-- An ALU operation writes registers and flags only. -/
theorem aluEffect_frame (k : AluOp) (y : Byte) (s : State) :
    aluEffect k y s = { s with regs := (aluEffect k y s).regs, flags := (aluEffect k y s).flags } := by
  cases k <;> rfl

/-- What is left to show of ADD S to CMP S: that the registers and flags of the effect are those claimed. -/
theorem runs_aluOp (k : AluOp) (o : Operand) (h : post (aluEffect k (operandValue s o) s).regs s.sp
    (aluEffect k (operandValue s o) s).flags s.mem) :
    Runs (Instr.aluOp k o) s (s.pc + 1) (if o = .m then 7 else 4) post := by
  refine ⟨_, exec_aluOp k o s, ?frame, ?post⟩
  case frame => rw [aluEffect_frame]
  case post => simpa only [readOperand_eq_operandValue, aluEffect_sp, aluEffect_mem] using h

/-- What is left to show of ADI d8 to CPI d8. -/
theorem runs_aluImm (k : AluOp) (d8 : Byte) (h : post (aluEffect k d8 s).regs s.sp (aluEffect k d8 s).flags s.mem) :
    Runs (Instr.aluImm k d8) s (s.pc + 2) 7 post := by
  refine ⟨_, exec_aluImm k d8 s, ?frame, ?post⟩
  case frame => rw [aluEffect_frame]
  case post => simpa only [aluEffect_sp, aluEffect_mem] using h

end Runs

/-! ### AluSub -/

section Sub

variable (f : Flags) (x y : Byte) (bin : Bool)

theorem aluSub_toNat : (aluSub f x y bin).1.toNat = (x.toNat + 512 - y.toNat - bin.toNat) % 256 := by
  have hy := y.isLt
  have hbin := bin.toNat_le
  have hvalue : (aluSub f x y bin).1.toNat = (((x.toNat : Int) - y.toNat - bin.toNat) % 256).toNat :=
    BitVec.toNat_ofInt ..
  omega

theorem aluSub_cy : (aluSub f x y bin).2.cy = decide (x.toNat < y.toNat + bin.toNat) :=
  decide_eq_decide.mpr (by omega)

theorem aluSub_ac : (aluSub f x y bin).2.ac = decide (loNibble x < loNibble y + bin.toNat) :=
  decide_eq_decide.mpr (by omega)

/-- Without a borrow-in the result is the difference modulo 256. -/
theorem aluSub_eq_sub : (aluSub f x y false).1 = x - y := by
  apply BitVec.eq_of_toNat_eq
  rw [aluSub_toNat, Bool.toNat_false]
  bv_omega

end Sub

/-! ### AluCmp -/

section Cmp

variable (f : Flags) (x y : Byte)

theorem zspOf_aluCmp : ZspOf (aluCmp f x y) (x - y) := by
  rw [← aluSub_eq_sub f]
  exact zspOf_setZSP ..

/-- Z after a comparison says that the operands are equal. -/
theorem aluCmp_z : (aluCmp f x y).z = decide (x = y) := by
  obtain ⟨hz, -, -⟩ := zspOf_aluCmp f x y
  rw [hz]
  exact decide_eq_decide.mpr (by bv_omega)

end Cmp

/-! ### AluDaa as the statement of R108 writes it -/

section Daa

variable (trigger : Config.DaaHighTrigger) (rule : Config.DaaCarryRule) (f : Flags) (a : Byte)

theorem daaLowApplies_iff : daaLowApplies f a = true ↔ loNibble a > 9 ∨ f.ac = true := by
  simp [daaLowApplies]

theorem daaHighApplies_iff : daaHighApplies trigger f a = true ↔
    hiNibble a > 9 ∨ f.cy = true ∨
      (hiNibble a ≥ 9 ∧ if trigger = .path then loNibble a > 9 ∨ f.ac = true else loNibble a > 9) := by
  cases trigger <;> simp [daaHighApplies, or_assoc]

/-- The high correction has no part in the low nibble. -/
theorem loNibble_daaCorrection : loNibble (daaCorrection trigger f a) = if daaLowApplies f a then 6 else 0 := by
  rw [loNibble, daaCorrection_toNat]
  split_ifs <;> rfl

theorem aluDaa_ac : (aluDaa trigger rule f a).2.ac =
    decide (15 < loNibble a + if daaLowApplies f a then 6 else 0) := by
  rw [← loNibble_daaCorrection trigger]
  rfl

end Daa

/-! ### The one-byte operations -/

theorem exec_daa (s : State) :
    exec .daa s = .next { setAccumulator s (aluDaa Config.daaHighTrigger Config.daaCarryRule s.flags s.regs.a) with
      pc := s.pc + 1, cycles := 4 } := rfl

theorem exec_cma (s : State) :
    exec .cma s = .next { setReg s .a (s.regs.a ^^^ 0xFF) with pc := s.pc + 1, cycles := 4 } := rfl

/-- A byte and its complement add to 255. -/
theorem toNat_xor_ones_add (v : Byte) : (v ^^^ 0xFF).toNat + v.toNat = 255 := by
  have hcomplement : v ^^^ 0xFF = ~~~v := BitVec.xor_allOnes
  rw [hcomplement]
  bv_omega

end Sys2Proof.Machine
end

section
/-! The statements of spec/43_alu_ops.md. -/

namespace Sys2Proof

open Machine

/-- Settles O32: all four are one write of A and the flags by AluAdd; ADD and ADI are the carry-in 0. -/
theorem additions : Obligations.Additions := by
  unfold Obligations.Additions
  intro s post
  have hpost (y : Byte) (cin : Bool) : post y cin.toNat (setAccumulator s (aluAdd s.flags s.regs.a y cin)).regs s.sp
      (aluAdd s.flags s.regs.a y cin).2 s.mem :=
    ⟨aluAdd_toNat s.flags .., fun _ hr => get_setAccumulator_of_ne s _ hr, aluAdd_cy .., aluAdd_ac .., zspOf_setZSP .., rfl,
      sameMemory_self s⟩
  exact ⟨fun o => ⟨decodesTo_aluOp .add o, decodesTo_aluOp .adc o, runs_aluOp .add o (hpost _ false),
      runs_aluOp .adc o (hpost _ s.flags.cy)⟩,
    fun d8 => ⟨decodesTo_aluImm .add d8, decodesTo_aluImm .adc d8, runs_aluImm .add d8 (hpost d8 false),
      runs_aluImm .adc d8 (hpost d8 s.flags.cy)⟩⟩

/-- Settles O33: all four are one write of A and the flags by AluSub; SUB and SUI are the borrow-in 0. -/
theorem subtractions : Obligations.Subtractions := by
  unfold Obligations.Subtractions
  intro s post
  have hpost (y : Byte) (bin : Bool) : post y bin.toNat (setAccumulator s (aluSub s.flags s.regs.a y bin)).regs s.sp
      (aluSub s.flags s.regs.a y bin).2 s.mem :=
    ⟨aluSub_toNat s.flags .., fun _ hr => get_setAccumulator_of_ne s _ hr, aluSub_cy .., aluSub_ac .., zspOf_setZSP .., rfl,
      sameMemory_self s⟩
  exact ⟨fun o => ⟨decodesTo_aluOp .sub o, decodesTo_aluOp .sbb o, runs_aluOp .sub o (hpost _ false),
      runs_aluOp .sbb o (hpost _ s.flags.cy)⟩,
    fun d8 => ⟨decodesTo_aluImm .sub d8, decodesTo_aluImm .sbb d8, runs_aluImm .sub d8 (hpost d8 false),
      runs_aluImm .sbb d8 (hpost d8 s.flags.cy)⟩⟩

/-- Settles O34: each is one write of A and the flags; the three helpers differ in the byte and in AC. -/
theorem logicOperations : Obligations.LogicOperations := by
  unfold Obligations.LogicOperations
  intro s post andPost xorPost orPost
  have hpost (v : Byte) (ac : Bool) : post v ac { s.regs with a := v } s.sp
      (setZSP { s.flags with cy := false, ac := ac } v) s.mem :=
    ⟨rfl, fun _ hr => get_setAccumulator_of_ne s (v, s.flags) hr, rfl, rfl, zspOf_setZSP .., rfl, sameMemory_self s⟩
  have hand (y : Byte) : andPost y (aluEffect .ana y s).regs s.sp (aluEffect .ana y s).flags s.mem := by
    have hquirk : (s.regs.a ||| y).getLsbD 3 = (s.regs.a.getLsbD 3 || y.getLsbD 3) := BitVec.getLsbD_or
    simp only [andPost, ← hquirk]
    exact hpost (s.regs.a &&& y) ((s.regs.a ||| y).getLsbD 3)
  exact ⟨fun o => ⟨decodesTo_aluOp .ana o, decodesTo_aluOp .xra o, decodesTo_aluOp .ora o,
      runs_aluOp .ana o (hand _), runs_aluOp .xra o (hpost _ false), runs_aluOp .ora o (hpost _ false)⟩,
    fun d8 => ⟨decodesTo_aluImm .ana d8, decodesTo_aluImm .xra d8, decodesTo_aluImm .ora d8,
      runs_aluImm .ana d8 (hand d8), runs_aluImm .xra d8 (hpost _ false), runs_aluImm .ora d8 (hpost _ false)⟩⟩

/-- Settles O35: a comparison writes the flags of AluSub without borrow-in, and no register. -/
theorem comparisons : Obligations.Comparisons := by
  unfold Obligations.Comparisons
  intro s post
  have hpost (y : Byte) : post y s.regs s.sp (aluCmp s.flags s.regs.a y) s.mem :=
    ⟨rfl, aluCmp_z .., aluSub_cy .., aluSub_ac .., zspOf_aluCmp .., rfl, sameMemory_self s⟩
  exact ⟨fun o => ⟨decodesTo_aluOp .cmp o, runs_aluOp .cmp o (hpost _)⟩,
    fun d8 => ⟨decodesTo_aluImm .cmp d8, runs_aluImm .cmp d8 (hpost d8)⟩⟩

/-- Settles O36: the correction of R108 is `daaCorrection`, for either reading of the trigger. -/
theorem decimalAdjust : Obligations.DecimalAdjust := by
  unfold Obligations.DecimalAdjust
  intro s lo hi lowpath trig low corr sum
  have hlow : (if daaLowApplies s.flags s.regs.a then 6 else 0) = low := if_congr (daaLowApplies_iff ..) rfl rfl
  have hsum : s.regs.a.toNat + (daaCorrection Config.daaHighTrigger s.flags s.regs.a).toNat = sum := by
    rw [daaCorrection_toNat, hlow, if_congr (daaHighApplies_iff ..) rfl rfl]
    rfl
  refine ⟨decodesTo_encode .daa rfl, _, exec_daa s, rfl, ?value, fun _ hr => get_setAccumulator_of_ne s _ hr, ?ac, ?cy,
    zspOf_setZSP .., rfl, sameMemory_self s⟩
  case value => rw [← hsum]; exact aluDaa_toNat Config.daaHighTrigger Config.daaCarryRule ..
  case ac => rw [← hlow]; exact aluDaa_ac ..
  case cy => simp [aluDaa_cy, hsum, and_comm]

/-- Settles O39: CMA is one register write, STC and CMC one write of the flags. -/
theorem complementAndCarry : Obligations.ComplementAndCarry := by
  unfold Obligations.ComplementAndCarry
  exact fun s => ⟨decodesTo_encode .cma rfl, decodesTo_encode .stc rfl, decodesTo_encode .cmc rfl,
    ⟨_, exec_cma s, rfl, toNat_xor_ones_add s.regs.a⟩, rfl, rfl⟩

end Sys2Proof
end

section
/-! SUPPORT. The loads, stores and pairs (R200 to R211) in the terms of the statements: their encodings, and what an
instruction that makes one named write has done. -/

namespace Sys2Proof.Machine

open Sys2Proof.Claims

/-! ### Encodings -/

/-- An opcode byte of length 3 (R70) and its two operand bytes are a whole instruction. -/
theorem decodesTo_triple {op b2 b3 : Byte} {i : Instr} (hlen : opLen op = 3) (hdecode : decodeOp op b2 b3 = i) :
    DecodesTo [op, b2, b3] i := by
  simp [DecodesTo, decode, hlen, hdecode]

theorem opLen_opMvi (r : Reg) : opLen (opMvi (.reg r)) = 2 := by cases r <;> rfl

theorem opLen_opLxi (p : RegPair) : opLen (opLxi p) = 3 := by rcases p with ⟨⟨⟩⟩ | _ <;> rfl

theorem opLen_opInx (p : RegPair) : opLen (opInx p) = 1 := by rcases p with ⟨⟨⟩⟩ | _ <;> rfl

theorem opLen_opDcx (p : RegPair) : opLen (opDcx p) = 1 := by rcases p with ⟨⟨⟩⟩ | _ <;> rfl

theorem opLen_opDad (p : RegPair) : opLen (opDad p) = 1 := by rcases p with ⟨⟨⟩⟩ | _ <;> rfl

theorem opLen_opLdax (p : IndexPair) : opLen (opLdax p) = 1 := by cases p <;> rfl

theorem opLen_opStax (p : IndexPair) : opLen (opStax p) = 1 := by cases p <;> rfl

/-! ### Meanings -/

theorem exec_mvi (r : Reg) (d8 : Byte) (s : State) :
    exec (Instr.mvi r d8) s = .next { setReg s r d8 with pc := s.pc + 2, cycles := 7 } := by
  cases r <;> rfl

theorem exec_mviM (d8 : Byte) (s : State) :
    exec (.mviM d8) s = .next { memWrite s (hl s) d8 with pc := s.pc + 2, cycles := 10 } := rfl

theorem exec_dad (p : RegPair) (s : State) :
    exec (Instr.dad p) s = .next { setPair s .hl (aluAdd16 s.flags (hl s) (getRegPair s p)).1 with
      flags := (aluAdd16 s.flags (hl s) (getRegPair s p)).2, pc := s.pc + 1, cycles := 10 } := by
  rcases p with ⟨⟨⟩⟩ | _ <;> rfl

theorem exec_ldax (p : IndexPair) (s : State) :
    exec (Instr.ldax p) s =
      .next { setReg s .a (memRead s (indexAddress p s)) with pc := s.pc + 1, cycles := 7 } := by
  cases p <;> rfl

theorem exec_stax (p : IndexPair) (s : State) :
    exec (Instr.stax p) s = .next { memWrite s (indexAddress p s) s.regs.a with pc := s.pc + 1, cycles := 7 } := by
  cases p <;> rfl

theorem exec_lda (a : Word) (s : State) :
    exec (.lda a) s = .next { setReg s .a (memRead s a) with pc := s.pc + 3, cycles := 13 } := rfl

theorem exec_sta (a : Word) (s : State) :
    exec (.sta a) s = .next { memWrite s a s.regs.a with pc := s.pc + 3, cycles := 13 } := rfl

theorem exec_lhld (a : Word) (s : State) :
    exec (.lhld a) s = .next { setPair s .hl (read16 s a) with pc := s.pc + 3, cycles := 16 } := rfl

theorem exec_shld (a : Word) (s : State) :
    exec (.shld a) s = .next { write16 s a (hl s) with pc := s.pc + 3, cycles := 16 } := rfl

/-! ### Writes of a pair and of a word -/

theorem wrotePair_setPair (s : State) (p : Pair) (v : Word) : WrotePair s (setPair s p v).regs p v := by
  refine ⟨?bytes, fun r hhi hlo => ?other⟩
  case bytes => rw [← word16_toNat]; exact congrArg BitVec.toNat (getPair_setPair s p v)
  case other => exact (getReg_setPair s p v r).trans (by rw [if_neg hlo, if_neg hhi]; rfl)

theorem wroteRegPair_setRegPair (s : State) (p : RegPair) (v : Word) :
    WroteRegPair s (setRegPair s p v).regs (setRegPair s p v).sp p v := by
  cases p with
  | pair p => exact ⟨wrotePair_setPair s p v, rfl⟩
  | sp => exact ⟨rfl, rfl⟩

/-- A write of a pair or SP writes registers and SP only. -/
theorem setRegPair_frame (s : State) (p : RegPair) (v : Word) :
    setRegPair s p v = { s with regs := (setRegPair s p v).regs, sp := (setRegPair s p v).sp } := by
  cases p <;> rfl

/-- HL written byte by byte: H takes the high one (R24). -/
theorem setPair_hl_regs (s : State) (hi lo : Byte) :
    (setPair s .hl (word16 hi lo)).regs = { s.regs with h := hi, l := lo } := by
  simp only [setPair, setReg_regs, hiByte_word16, loByte_word16]
  rfl

theorem storedWord_write16 (s : State) (a : Word) (hi lo : Byte) :
    StoredWord s (write16 s a (word16 hi lo)).mem a hi lo := fun x =>
  (memRead_write16 s a (word16 hi lo) x).trans (by rw [hiByte_word16, loByte_word16])

/-! ### Runs of one write -/

section Runs

variable {i : Instr} {s : State} {pc : Word} {cycles : Nat}

/-- An instruction that writes one register. -/
theorem runs_of_setReg {r : Reg} {v : Byte} (h : exec i s = .next { setReg s r v with pc := pc, cycles := cycles }) :
    Runs i s pc cycles fun q sp f m => WroteReg s q r v ∧ sp = s.sp ∧ f = s.flags ∧ SameMemory s m :=
  ⟨_, h, rfl, wroteReg_setReg s r v, rfl, rfl, sameMemory_self s⟩

/-- An instruction that writes one byte of memory. -/
theorem runs_of_memWrite {a : Word} {v : Byte}
    (h : exec i s = .next { memWrite s a v with pc := pc, cycles := cycles }) :
    Runs i s pc cycles fun q sp f m => q = s.regs ∧ sp = s.sp ∧ f = s.flags ∧ StoredByte s m a v :=
  ⟨_, h, rfl, rfl, rfl, rfl, storedByte_memWrite s a v⟩

/-- An instruction that writes one pair or SP. -/
theorem runs_of_setRegPair {p : RegPair} {v : Word}
    (h : exec i s = .next { setRegPair s p v with pc := pc, cycles := cycles }) :
    Runs i s pc cycles fun q sp f m => WroteRegPair s q sp p v ∧ f = s.flags ∧ SameMemory s m := by
  refine ⟨_, h, ?frame, wroteRegPair_setRegPair s p v, setRegPair_flags s p v, ?memory⟩
  case frame => rw [setRegPair_frame]
  case memory => rw [setRegPair_mem]; exact sameMemory_self s

end Runs

end Sys2Proof.Machine
end

section
/-! The statements of spec/44_loads_pairs.md. -/

namespace Sys2Proof

open Machine

/-- Settles O40: MVI r is one register write, MVI M one memory write. -/
theorem moveImmediate : Obligations.MoveImmediate := by
  unfold Obligations.MoveImmediate
  refine fun s d8 => ⟨fun r => ⟨?decodes, runs_of_setReg (exec_mvi r d8 s)⟩, ?mDecodes,
    runs_of_memWrite (exec_mviM d8 s)⟩
  case decodes => exact decodesTo_pair (opLen_opMvi r) fun b3 => decodeOp_opMvi d8 b3 r
  case mDecodes => exact decodesTo_pair rfl fun _ => rfl

/-- Settles O41: one write of the pair, of the word that the decoder makes of the two bytes. -/
theorem loadPairImmediate : Obligations.LoadPairImmediate := by
  unfold Obligations.LoadPairImmediate
  exact fun s p b2 b3 => ⟨decodesTo_triple (opLen_opLxi p) (decodeOp_opLxi b2 b3 p),
    runs_of_setRegPair (exec_lxi p (b3 ++ b2) s)⟩

/-- Settles O42: one write of the pair; 1 less is 65535 more modulo 2^16. -/
theorem pairIncrementAndDecrement : Obligations.PairIncrementAndDecrement := by
  unfold Obligations.PairIncrementAndDecrement
  intro s p
  have hinc : getRegPair s p + 1 = BitVec.ofNat 16 ((getRegPair s p).toNat + 1) := by bv_omega
  have hdec : getRegPair s p - 1 = BitVec.ofNat 16 ((getRegPair s p).toNat + 65535) := by bv_omega
  rw [← hinc, ← hdec]
  exact ⟨decodesTo_singleton (opLen_opInx p) fun b2 b3 => decodeOp_opInx b2 b3 p,
    decodesTo_singleton (opLen_opDcx p) fun b2 b3 => decodeOp_opDcx b2 b3 p,
    runs_of_setRegPair (exec_inx p s), runs_of_setRegPair (exec_dcx p s)⟩

/-- Settles O43: one write of HL and one of CY, both by AluAdd16 (R111). -/
theorem pairAddition : Obligations.PairAddition := by
  unfold Obligations.PairAddition
  exact fun s p => ⟨decodesTo_singleton (opLen_opDad p) fun b2 b3 => decodeOp_opDad b2 b3 p,
    _, exec_dad p s, rfl, wrotePair_setPair s .hl _, rfl, aluAdd16_flags s.flags .., sameMemory_self s⟩

/-- Settles O44: LDAX is one write of A, STAX one memory write, both at the address in the pair. -/
theorem indirectLoadAndStore : Obligations.IndirectLoadAndStore := by
  unfold Obligations.IndirectLoadAndStore
  intro s p a
  have ha : indexAddress p s = a := by cases p <;> rfl
  rw [← ha]
  exact ⟨decodesTo_singleton (opLen_opLdax p) fun b2 b3 => decodeOp_opLdax b2 b3 p,
    decodesTo_singleton (opLen_opStax p) fun b2 b3 => decodeOp_opStax b2 b3 p,
    runs_of_setReg (exec_ldax p s), runs_of_memWrite (exec_stax p s)⟩

/-- Settles O45: LDA is one write of A, STA one memory write. -/
theorem directLoadAndStore : Obligations.DirectLoadAndStore := by
  unfold Obligations.DirectLoadAndStore
  exact fun s _ _ => ⟨decodesTo_triple rfl rfl, decodesTo_triple rfl rfl, runs_of_setReg (exec_lda _ s),
    runs_of_memWrite (exec_sta _ s)⟩

/-- Settles O46: LHLD writes HL with the word at a16, SHLD writes HL as the word there; L is the low byte of both. -/
theorem hlDirectLoadAndStore : Obligations.HlDirectLoadAndStore := by
  unfold Obligations.HlDirectLoadAndStore
  intro s b2 b3 a
  exact ⟨decodesTo_triple rfl rfl, decodesTo_triple rfl rfl,
    ⟨_, exec_lhld a s, rfl, setPair_hl_regs s (memRead s (a + 1)) (memRead s a), rfl, rfl, sameMemory_self s⟩,
    ⟨_, exec_shld a s, rfl, rfl, rfl, rfl, storedWord_write16 s a s.regs.h s.regs.l⟩⟩

end Sys2Proof
end

section
/-! SUPPORT. Increment, decrement and rotate (R230 to R237) in the terms of the statements: their encodings, their
meanings, AluInr (R109) and AluDcr (R110) in arithmetic, the rotated byte by its bits, and what an instruction that ends
in one such write has done. -/

namespace Sys2Proof.Machine

open Sys2Proof.Claims

/-! ### Encodings -/

theorem opLen_opInr (r : Reg) : opLen (opInr (.reg r)) = 1 := by cases r <;> rfl

theorem opLen_opDcr (r : Reg) : opLen (opDcr (.reg r)) = 1 := by cases r <;> rfl

/-! ### Meanings -/

theorem exec_inr (r : Reg) (s : State) :
    exec (Instr.inr r) s =
      .next { setResult s (.reg r) (aluInr s.flags (getReg s r)) with pc := s.pc + 1, cycles := 5 } := by
  cases r <;> rfl

theorem exec_inrM (s : State) :
    exec .inrM s =
      .next { setResult s .m (aluInr s.flags (memRead s (hl s))) with pc := s.pc + 1, cycles := 10 } := rfl

theorem exec_dcr (r : Reg) (s : State) :
    exec (Instr.dcr r) s = .next { setResult s (.reg r) (aluDcr Config.dcrAcRule s.flags (getReg s r)) with
      pc := s.pc + 1, cycles := 5 } := by
  cases r <;> rfl

theorem exec_dcrM (s : State) :
    exec .dcrM s = .next { setResult s .m (aluDcr Config.dcrAcRule s.flags (memRead s (hl s))) with
      pc := s.pc + 1, cycles := 10 } := rfl

theorem exec_rlc (s : State) :
    exec .rlc s =
      .next { setRotated s (s.regs.a.extractLsb' 0 7 ++ BitVec.ofBool (s.regs.a.getLsbD 7)) (s.regs.a.getLsbD 7) with
        pc := s.pc + 1, cycles := 4 } := rfl

theorem exec_rrc (s : State) :
    exec .rrc s =
      .next { setRotated s (BitVec.ofBool (s.regs.a.getLsbD 0) ++ s.regs.a.extractLsb' 1 7) (s.regs.a.getLsbD 0) with
        pc := s.pc + 1, cycles := 4 } := rfl

theorem exec_ral (s : State) :
    exec .ral s =
      .next { setRotated s (s.regs.a.extractLsb' 0 7 ++ BitVec.ofBool s.flags.cy) (s.regs.a.getLsbD 7) with
        pc := s.pc + 1, cycles := 4 } := rfl

theorem exec_rar (s : State) :
    exec .rar s =
      .next { setRotated s (BitVec.ofBool s.flags.cy ++ s.regs.a.extractLsb' 1 7) (s.regs.a.getLsbD 0) with
        pc := s.pc + 1, cycles := 4 } := rfl

/-! ### AluInr and AluDcr -/

section IncDec

variable (rule : Config.DcrAcRule) (f : Flags) (v : Byte)

theorem aluInr_value : (aluInr f v).1 = BitVec.ofNat 8 (v.toNat + 1) := by
  apply BitVec.eq_of_toNat_eq
  simp [aluInr]

theorem zspOf_aluInr : ZspOf (aluInr f v).2 (BitVec.ofNat 8 (v.toNat + 1)) := by
  rw [← aluInr_value f]
  exact zspOf_setZSP ..

/-- The low nibble of the result is 0 when the increment carries out of bit 3. -/
theorem aluInr_ac : (aluInr f v).2.ac = decide (v.toNat % 16 = 15) := by
  have hnibble : loNibble (v + 1) = (v.toNat + 1) % 16 := by rw [loNibble]; bv_omega
  have hac : (aluInr f v).2.ac = decide (loNibble (v + 1) = 0) := rfl
  rw [hac, hnibble]
  exact decide_eq_decide.mpr (by omega)

theorem aluDcr_value : (aluDcr rule f v).1 = BitVec.ofNat 8 (v.toNat + 255) := by
  have hvalue : (aluDcr rule f v).1 = v - 1 := rfl
  rw [hvalue]
  bv_omega

theorem zspOf_aluDcr : ZspOf (aluDcr rule f v).2 (BitVec.ofNat 8 (v.toNat + 255)) := by
  rw [← aluDcr_value rule f]
  exact zspOf_setZSP ..

theorem aluDcr_ac_of_borrow (h : rule = .borrow) : (aluDcr rule f v).2.ac = decide (v.toNat % 16 = 0) := by
  rw [h]; rfl

theorem aluDcr_ac_of_nonborrow (h : rule = .nonborrow) : (aluDcr rule f v).2.ac = decide (v.toNat % 16 ≠ 0) := by
  rw [h]; rfl

end IncDec

/-! ### The rotated byte -/

/-- A byte moved up one place: `c` enters at bit 0. -/
theorem getLsbD_extractLsb'_append_ofBool (a : Byte) (c : Bool) (k : Nat) (hk : k < 8) :
    (a.extractLsb' 0 7 ++ BitVec.ofBool c).getLsbD k = if k = 0 then c else a.getLsbD (k - 1) := by
  rw [BitVec.getLsbD_append]
  split_ifs with hlow h0 h0
  · simp [h0]
  · omega
  · omega
  · rw [BitVec.getLsbD_extractLsb', Nat.zero_add, decide_eq_true (by omega), Bool.true_and]

/-- A byte moved down one place: `c` enters at bit 7. -/
theorem getLsbD_ofBool_append_extractLsb' (a : Byte) (c : Bool) (k : Nat) (hk : k < 8) :
    (BitVec.ofBool c ++ a.extractLsb' 1 7).getLsbD k = if k = 7 then c else a.getLsbD (k + 1) := by
  rw [BitVec.getLsbD_append]
  split_ifs with hlow h7 h7
  · omega
  · simp [hlow, Nat.add_comm]
  · simp [h7]
  · omega

/-! ### Runs of one such write -/

section Runs

variable {i : Instr} {s : State} {pc : Word} {cycles : Nat}

/-- An instruction that writes one register and the flags. -/
theorem runs_of_setResult_reg {r : Reg} {w : Byte × Flags} {v : Byte} {flagsOk : Flags → Prop}
    (h : exec i s = .next { setResult s (.reg r) w with pc := pc, cycles := cycles }) (hv : w.1 = v)
    (hf : flagsOk w.2) :
    Runs i s pc cycles fun q sp f m => WroteReg s q r v ∧ flagsOk f ∧ sp = s.sp ∧ SameMemory s m :=
  ⟨_, h, rfl, hv ▸ wroteReg_setReg s r w.1, hf, rfl, sameMemory_self s⟩

/-- An instruction that writes the byte at HL and the flags. -/
theorem runs_of_setResult_m {w : Byte × Flags} {v : Byte} {flagsOk : Flags → Prop}
    (h : exec i s = .next { setResult s .m w with pc := pc, cycles := cycles }) (hv : w.1 = v) (hf : flagsOk w.2) :
    Runs i s pc cycles fun q sp f m => q = s.regs ∧ sp = s.sp ∧ flagsOk f ∧ StoredByte s m (hl s) v :=
  ⟨_, h, rfl, rfl, rfl, hf, hv ▸ storedByte_memWrite s (hl s) w.1⟩

/-- An instruction that writes A, named by its bits, and CY. -/
theorem runs_of_setRotated {v : Byte} {c : Bool} {bit : Nat → Bool}
    (h : exec i s = .next { setRotated s v c with pc := pc, cycles := cycles })
    (hbits : ∀ k, k < 8 → v.getLsbD k = bit k) :
    Runs i s pc cycles fun q sp f m => (∀ k, k < 8 → q.a.getLsbD k = bit k) ∧
      (∀ r, r ≠ .a → Regs.get q r = Regs.get s.regs r) ∧ f = { s.flags with cy := c } ∧ sp = s.sp ∧
      SameMemory s m :=
  ⟨_, h, rfl, hbits, fun r hr => (Regs.get_set s.regs .a r v).trans (if_neg hr), rfl, rfl, sameMemory_self s⟩

end Runs

end Sys2Proof.Machine
end

section
/-! The statements of spec/45_incdec_rotate.md. -/

namespace Sys2Proof

open Machine

/-- Settles O47: INR r and INR M are one write of the operand and the flags by AluInr. -/
theorem increments : Obligations.Increments := by
  unfold Obligations.Increments
  intro s flagsOf
  have hflags (v : Byte) : flagsOf v (aluInr s.flags v).2 := ⟨aluInr_cy .., aluInr_ac .., zspOf_aluInr ..⟩
  exact ⟨fun r => ⟨decodesTo_singleton (opLen_opInr r) fun b2 b3 => decodeOp_opInr b2 b3 r,
      runs_of_setResult_reg (exec_inr r s) (aluInr_value ..) (hflags _)⟩,
    decodesTo_encode .inrM rfl, runs_of_setResult_m (exec_inrM s) (aluInr_value ..) (hflags _)⟩

/-- Settles O48: DCR r and DCR M are one write of the operand and the flags by AluDcr; 1 less is 255 more modulo 256. -/
theorem decrements : Obligations.Decrements := by
  unfold Obligations.Decrements
  intro s flagsOf
  have hflags (v : Byte) : flagsOf v (aluDcr Config.dcrAcRule s.flags v).2 :=
    ⟨aluDcr_cy .., aluDcr_ac_of_borrow _ _ v, aluDcr_ac_of_nonborrow _ _ v, zspOf_aluDcr ..⟩
  exact ⟨fun r => ⟨decodesTo_singleton (opLen_opDcr r) fun b2 b3 => decodeOp_opDcr b2 b3 r,
      runs_of_setResult_reg (exec_dcr r s) (aluDcr_value ..) (hflags _)⟩,
    decodesTo_encode .dcrM rfl, runs_of_setResult_m (exec_dcrM s) (aluDcr_value ..) (hflags _)⟩

/-- Settles O49: each rotate moves A one place; the entering bit is the one that leaves, or the old CY. -/
theorem rotates : Obligations.Rotates := by
  unfold Obligations.Rotates
  intro s post
  have hup (c : Bool) := getLsbD_extractLsb'_append_ofBool s.regs.a c
  have hdown (c : Bool) := getLsbD_ofBool_append_extractLsb' s.regs.a c
  exact ⟨decodesTo_encode .rlc rfl, decodesTo_encode .rrc rfl, decodesTo_encode .ral rfl, decodesTo_encode .rar rfl,
    runs_of_setRotated (exec_rlc s) (hup _), runs_of_setRotated (exec_rrc s) (hdown _),
    runs_of_setRotated (exec_ral s) (hup _), runs_of_setRotated (exec_rar s) (hdown _)⟩

end Sys2Proof
end

section
/-! SUPPORT. Control transfer (R250 to R282) in the terms of the statements: the encodings, the meanings, what an
instruction that ends in a push has done, and what a RET after it gives back. -/

namespace Sys2Proof.Machine

open Sys2Proof.Claims

/-! ### Encodings -/

theorem opLen_opJcc (k : Cond) : opLen (opJcc k) = 3 := by cases k <;> rfl

theorem opLen_opCcc (k : Cond) : opLen (opCcc k) = 3 := by cases k <;> rfl

theorem opLen_opRcc (k : Cond) : opLen (opRcc k) = 1 := by cases k <;> rfl

theorem opLen_opRst (n : Fin 8) : opLen (opRst n) = 1 := by fin_cases n <;> rfl

theorem length_encode_ccc (k : Cond) (a : Word) : (encode (Instr.ccc k a)).length = 3 := by cases k <;> rfl

theorem length_encode_rst (n : Fin 8) : (encode (Instr.rst n)).length = 1 := by fin_cases n <;> rfl

/-! ### Meanings -/

theorem exec_jmp (a : Word) (s : State) : exec (.jmp a) s = .next { s with pc := a, cycles := 10 } := rfl

theorem exec_pchl (s : State) : exec .pchl s = .next { s with pc := word16 s.regs.h s.regs.l, cycles := 5 } := rfl

theorem exec_call (a : Word) (s : State) :
    exec (.call a) s = .next { push16 (s.pc + 3) s with pc := a, cycles := 17 } := rfl

theorem exec_ccc_of_holds {k : Cond} {s : State} (hk : Cond.holds k s.flags = true) (a : Word) :
    exec (Instr.ccc k a) s = .next { push16 (s.pc + 3) s with pc := a, cycles := 17 } := by
  rw [exec_ccc, callIf_eq, if_pos hk]

theorem exec_ccc_of_not_holds {k : Cond} {s : State} (hk : Cond.holds k s.flags = false) (a : Word) :
    exec (Instr.ccc k a) s = .next { s with pc := s.pc + 3, cycles := 11 } := by
  rw [exec_ccc, callIf_eq, if_neg (by simp [hk])]

theorem exec_ret (s : State) :
    exec .ret s = .next { s with pc := read16 s s.sp, sp := s.sp + 2, cycles := 10 } := by
  have hpop : exec .ret s = .next { (pop16 s).2 with pc := (pop16 s).1, cycles := 10 } := rfl
  rw [hpop, pop16_state, pop16_value]

/-! ### Push, then return -/

theorem storedWord_push16 (v : Word) (s : State) :
    StoredWord s (push16 v s).mem (s.sp - 2) (hiByte v) (loByte v) := memRead_push16 v s

/-- An instruction that ends in a push of `v`. -/
theorem runs_of_push16 {i : Instr} {s : State} {v pc : Word} {cycles : Nat}
    (h : exec i s = .next { push16 v s with pc := pc, cycles := cycles }) :
    Runs i s pc cycles fun q sp f m =>
      q = s.regs ∧ sp = s.sp - 2 ∧ f = s.flags ∧ StoredWord s m (s.sp - 2) (hiByte v) (loByte v) :=
  ⟨_, h, rfl, rfl, push16_sp v s, rfl, storedWord_push16 v s⟩

/-- RET takes what was pushed in `s` as PC and puts SP back; memory keeps the pushed bytes. -/
theorem exec_ret_of_pushed (v pc : Word) (cycles : Nat) (s : State) :
    exec .ret { push16 v s with pc := pc, cycles := cycles } =
      .next { s with pc := v, mem := (push16 v s).mem, cycles := 10 } := by
  have hvalue : read16 { push16 v s with pc := pc, cycles := cycles } (push16 v s).sp = v := pop16_push16 v s
  have hback : (push16 v s).sp + 2 = s.sp := by
    rw [push16_sp]
    bv_omega
  rw [exec_ret, hvalue, hback]
  rfl

end Sys2Proof.Machine
end

section
/-! The statements of spec/46_control.md. -/

namespace Sys2Proof

open Machine

/-- Settles O50: each condition reads one flag in one sense, and a jump has only the two endings of `jumpIf_eq`. -/
theorem jumps : Obligations.Jumps := by
  unfold Obligations.Jumps
  refine ⟨fun f => ?conditions, fun s b2 b3 => ⟨decodesTo_triple rfl rfl, exec_jmp _ s,
    fun k => ⟨?decodes, ?conditional⟩, decodesTo_singleton rfl fun _ _ => rfl, exec_pchl s⟩⟩
  case conditions =>
    have hfalse (b : Bool) : (!b) = true ↔ b = false := by simp
    exact ⟨hfalse f.z, .rfl, hfalse f.cy, .rfl, hfalse f.p, .rfl, hfalse f.s, .rfl⟩
  case decodes => exact decodesTo_triple (opLen_opJcc k) (decodeOp_opJcc b2 b3 k)
  case conditional => rw [exec_jcc, jumpIf_eq, apply_ite Host.Outcome.next]

/-- Settles O51: CALL and a taken Ccc end in a push of the address after their three bytes. -/
theorem calls : Obligations.Calls := by
  unfold Obligations.Calls
  exact fun s b2 b3 => ⟨decodesTo_triple rfl rfl, runs_of_push16 (exec_call _ s), fun k =>
    ⟨decodesTo_triple (opLen_opCcc k) (decodeOp_opCcc b2 b3 k), fun hk => runs_of_push16 (exec_ccc_of_holds hk _),
      fun hk => exec_ccc_of_not_holds hk _⟩⟩

/-- Settles O52: RET and a taken Rcc end in a pop, which is the word at SP and SP + 2. -/
theorem returns : Obligations.Returns := by
  unfold Obligations.Returns
  refine fun s => ⟨decodesTo_singleton rfl fun _ _ => rfl, exec_ret s, fun k => ⟨?decodes, ?conditional⟩⟩
  case decodes => exact decodesTo_singleton (opLen_opRcc k) fun b2 b3 => decodeOp_opRcc b2 b3 k
  case conditional =>
    rw [exec_rcc, returnIf_eq, pop16_state, apply_ite Host.Outcome.next]
    rfl

/-- Settles O53: RST ends in a push of the address after its one byte. -/
theorem restart : Obligations.Restart := by
  unfold Obligations.Restart
  exact fun s n => ⟨decodesTo_singleton (opLen_opRst n) fun b2 b3 => decodeOp_opRst b2 b3 n,
    runs_of_push16 (exec_rst n s)⟩

/-- Settles O54: each of the three calls pushes the address after its own bytes, and RET pops it. -/
theorem callThenReturn : Obligations.CallThenReturn := by
  unfold Obligations.CallThenReturn
  intro s t i a k n hcall hexec
  have hpush : ∃ pc cycles,
      exec i s = .next { push16 (s.pc + BitVec.ofNat 16 (encode i).length) s with pc := pc, cycles := cycles } := by
    rcases hcall with rfl | ⟨rfl, hk⟩ | rfl
    · exact ⟨_, _, exec_call a s⟩
    · rw [length_encode_ccc]
      exact ⟨_, _, exec_ccc_of_holds hk a⟩
    · rw [length_encode_rst]
      exact ⟨_, _, exec_rst n s⟩
  obtain ⟨pc, cycles, hpushed⟩ := hpush
  obtain rfl := Host.Outcome.next.inj (hexec.symm.trans hpushed)
  exact ⟨_, exec_ret_of_pushed _ pc cycles s, rfl⟩

end Sys2Proof
end

section
/-! SUPPORT. Stack, exchange, control and ports (R300 to R311) in the terms of the statements: the encodings, the
meanings, what a push and a pop of two bytes have done, and which instructions touch the ports (R340). -/

namespace Sys2Proof.Machine

open Sys2Proof.Claims

/-! ### Encodings -/

theorem opLen_opPush (p : Pair) : opLen (opPush p) = 1 := by cases p <;> rfl

theorem opLen_opPop (p : Pair) : opLen (opPop p) = 1 := by cases p <;> rfl

/-! ### Words by their bytes -/

@[simp] theorem hiByte_read16 (s : State) (a : Word) : hiByte (read16 s a) = memRead s (a + 1) := hiByte_word16 ..

@[simp] theorem loByte_read16 (s : State) (a : Word) : loByte (read16 s a) = memRead s a := loByte_word16 ..

/-- A pair written byte by byte (R24). -/
theorem setPair_word16 (s : State) (p : Pair) (hi lo : Byte) :
    setPair s p (word16 hi lo) = setReg (setReg s (Pair.hi p) hi) (Pair.lo p) lo := by
  rw [setPair, hiByte_word16, loByte_word16]

/-! ### Meanings -/

theorem exec_push (p : Pair) (s : State) :
    exec (Instr.push p) s = .next { push16 (getPair s p) s with pc := s.pc + 1, cycles := 11 } := by
  cases p <;> rfl

theorem exec_pop (p : Pair) (s : State) :
    exec (Instr.pop p) s =
      .next { setPair s p (read16 s s.sp) with sp := s.sp + 2, pc := s.pc + 1, cycles := 10 } := by
  have hpop : exec (Instr.pop p) s =
      .next { setPair (pop16 s).2 p (pop16 s).1 with pc := s.pc + 1, cycles := 10 } := by cases p <;> rfl
  rw [hpop, pop16_state, pop16_value]
  rfl

/-- POP PSW by the two bytes at the stack top. -/
theorem exec_popPsw_of_bytes (s : State) :
    exec .popPsw s = .next { s with
      regs := { s.regs with a := memRead s (s.sp + 1) }, flags := unpackF (memRead s s.sp), sp := s.sp + 2,
      pc := s.pc + 1, cycles := 10 } := by
  rw [exec_popPsw, pop16_value, pop16_sp, hiByte_read16, loByte_read16]

theorem exec_xthl (s : State) :
    exec .xthl s = .next { setPair (write16 s s.sp (hl s)) .hl (read16 s s.sp) with
      pc := s.pc + 1, cycles := 18 } := rfl

theorem exec_sphl (s : State) : exec .sphl s = .next { s with sp := hl s, pc := s.pc + 1, cycles := 5 } := rfl

/-- XCHG writes DE first; HL then takes the DE of the state before. -/
theorem exec_xchg (s : State) :
    exec .xchg s = .next { s with
      regs := { s.regs with d := s.regs.h, e := s.regs.l, h := s.regs.d, l := s.regs.e },
      pc := s.pc + 1, cycles := 4 } := by
  have hxchg : exec .xchg s =
      .next { setPair (setPair s .de (word16 s.regs.h s.regs.l)) .hl (word16 s.regs.d s.regs.e) with
        pc := s.pc + 1, cycles := 4 } := rfl
  rw [hxchg, setPair_word16, setPair_word16]
  rfl

theorem exec_ei (s : State) : exec .ei s = .next { s with inte := true, pc := s.pc + 1, cycles := 4 } := rfl

theorem exec_di (s : State) : exec .di s = .next { s with inte := false, pc := s.pc + 1, cycles := 4 } := rfl

theorem exec_nop (s : State) : exec .nop s = .next { s with pc := s.pc + 1, cycles := 4 } := rfl

theorem exec_inPort (p8 : Byte) (s : State) :
    exec (.inPort p8) s =
      .next { setReg (portRead p8 s).2 .a (portRead p8 s).1 with pc := s.pc + 2, cycles := 10 } := rfl

theorem exec_outPort (p8 : Byte) (s : State) :
    exec (.outPort p8) s = .next { portWrite p8 s.regs.a s with pc := s.pc + 2, cycles := 10 } := rfl

/-! ### Push and pop of two bytes -/

/-- An instruction that ends in a push of two bytes. -/
theorem runs_of_push16_word16 {i : Instr} {s : State} {hi lo : Byte} {pc : Word} {cycles : Nat}
    (h : exec i s = .next { push16 (word16 hi lo) s with pc := pc, cycles := cycles }) :
    Runs i s pc cycles fun q sp f m =>
      q = s.regs ∧ sp = s.sp - 2 ∧ f = s.flags ∧ StoredWord s m (s.sp - 2) hi lo := by
  simpa only [hiByte_word16, loByte_word16] using runs_of_push16 h

/-- POP rp writes the two registers and SP. -/
theorem runs_pop (p : Pair) (s : State) :
    Runs (Instr.pop p) s (s.pc + 1) 10 fun q sp f m =>
      Regs.get q (Pair.hi p) = memRead s (s.sp + 1) ∧ Regs.get q (Pair.lo p) = memRead s s.sp ∧
      (∀ r, r ≠ Pair.hi p → r ≠ Pair.lo p → Regs.get q r = Regs.get s.regs r) ∧
      sp = s.sp + 2 ∧ f = s.flags ∧ SameMemory s m := by
  have hget := getReg_setPair s p (read16 s s.sp)
  refine ⟨_, exec_pop p s, rfl, ?high, ?low, fun r hhi hlo => ?other, rfl, rfl, sameMemory_self s⟩
  case high => exact (hget _).trans (by rw [if_neg (Pair.hi_ne_lo p), if_pos rfl, hiByte_read16])
  case low => exact (hget _).trans (by rw [if_pos rfl, loByte_read16])
  case other => exact (hget r).trans (by rw [if_neg hlo, if_neg hhi]; rfl)

/-! ### Ports -/

/-- Only IN takes a draw and only OUT records an event (R309, R310): the update of every other family keeps both fields
(Laws/State). -/
theorem Meaning.ports_eq {m : State → Result} {i : Instr} {s t : State} (d : Meaning m i) (h : m s = .next t)
    (hin : ∀ p, i ≠ .inPort p) (hout : ∀ p, i ≠ .outPort p) : t.portIn = s.portIn ∧ t.portOut = s.portOut := by
  cases d with
  | inPort p => exact absurd rfl (hin p)
  | outPort p => exact absurd rfl (hout p)
  | invalid => cases h
  | jcc => rw [jumpIf_frame h]; exact ⟨rfl, rfl⟩
  | ccc => rw [callIf_frame h]; exact ⟨rfl, rfl⟩
  | rcc => rw [returnIf_frame h]; exact ⟨rfl, rfl⟩
  | _ => cases h; simp

end Sys2Proof.Machine
end

section
/-! The statements of spec/47_stack_io_misc.md, with those of spec/60_exceptions.md about the ports. -/

namespace Sys2Proof

open Machine

/-- Settles O24: IN is one draw and one write of A, OUT one event; every other family keeps the port fields. -/
theorem portCallsAreMadeByInAndOutOnly : Obligations.PortCallsAreMadeByInAndOutOnly := by
  unfold Obligations.PortCallsAreMadeByInAndOutOnly
  refine ⟨fun s p8 => ⟨decodesTo_pair rfl fun _ => rfl, exec_inPort p8 s⟩, fun i s t h => ⟨?output, ?others⟩⟩
  case output =>
    rintro p rfl
    rw [exec_outPort] at h
    cases h
    exact ⟨rfl, rfl⟩
  case others => exact (meaning_exec i).ports_eq h

/-- Settles O55: PUSH rp pushes the pair's two registers, POP rp writes them with the two bytes at the stack top. -/
theorem pushAndPopPair : Obligations.PushAndPopPair := by
  unfold Obligations.PushAndPopPair
  exact fun s p => ⟨decodesTo_singleton (opLen_opPush p) fun b2 b3 => decodeOp_opPush b2 b3 p,
    decodesTo_singleton (opLen_opPop p) fun b2 b3 => decodeOp_opPop b2 b3 p,
    runs_of_push16_word16 (exec_push p s), runs_pop p s⟩

/-- Settles O56: PUSH PSW is a push of A and F, POP PSW writes A and the flags that F's bits name (R30). -/
theorem pushAndPopPsw : Obligations.PushAndPopPsw := by
  unfold Obligations.PushAndPopPsw
  exact fun s => ⟨decodesTo_singleton rfl fun _ _ => rfl, decodesTo_singleton rfl fun _ _ => rfl,
    runs_of_push16_word16 (exec_pushPsw s),
    ⟨_, exec_popPsw_of_bytes s, rfl, rfl, rfl, sameMemory_self s, rfl⟩⟩

/-- Settles O58: XTHL writes HL with the word at SP and the old HL there; XCHG writes both pairs as they were before. -/
theorem exchangesAndSphl : Obligations.ExchangesAndSphl := by
  unfold Obligations.ExchangesAndSphl
  refine fun s => ⟨decodesTo_singleton rfl fun _ _ => rfl, decodesTo_singleton rfl fun _ _ => rfl,
    decodesTo_singleton rfl fun _ _ => rfl, ⟨_, exec_xthl s, rfl, ?hlOfStackTop, rfl, rfl, ?stackTopOfHl⟩,
    exec_sphl s, exec_xchg s⟩
  case hlOfStackTop => exact setPair_hl_regs (write16 s s.sp (hl s)) (memRead s (s.sp + 1)) (memRead s s.sp)
  case stackTopOfHl => exact storedWord_write16 s s.sp s.regs.h s.regs.l

/-- Settles O59: each writes INTE, or nothing, and falls through. -/
theorem interruptEnableAndNop : Obligations.InterruptEnableAndNop := by
  unfold Obligations.InterruptEnableAndNop
  exact fun s => ⟨decodesTo_singleton rfl fun _ _ => rfl, decodesTo_singleton rfl fun _ _ => rfl,
    decodesTo_singleton rfl fun _ _ => rfl, exec_ei s, exec_di s, exec_nop s⟩

/-- Settles O60: OUT is one event of the port and A, recorded after the earlier ones. -/
theorem portOutput : Obligations.PortOutput := by
  unfold Obligations.PortOutput
  exact fun s p8 => ⟨decodesTo_pair rfl fun _ => rfl, exec_outPort p8 s⟩

end Sys2Proof
end

section
/-! SUPPORT. What the host's actions between steps do (R341, R370 to R373): the entry after a reset and the bytes that the
image loader writes. -/

namespace Sys2Proof.Machine

/-! ### The reset operation -/

@[simp] theorem hostReset_halted (s : State) : (hostReset s).halted = false := rfl

/-- Execution enters at 0x0000 of the memory as the host left it (R371, R372). -/
theorem fetchInstr_hostReset (s : State) :
    fetchInstr (hostReset s) = decodeOp (memRead s 0x0000) (memRead s 0x0001) (memRead s 0x0002) := rfl

/-! ### The image loader -/

/-- The loader writes memory only. -/
theorem hostWriteAll_frame (s : State) (base : Nat) (image : List Byte) :
    hostWriteAll s base image = { s with mem := (hostWriteAll s base image).mem } := by
  induction image generalizing s base with
  | nil => rfl
  | cons v image ih => exact ih (memWrite s (BitVec.ofNat 16 base) v) (base + 1)

/-- What an image that fits leaves in memory. Its addresses do not wrap, so no byte of it is written over by a later one. -/
theorem memRead_hostWriteAll {base : Nat} {image : List Byte} (hfit : base + image.length ≤ 65536) (s : State) (a : Word) :
    memRead (hostWriteAll s base image) a =
      if base ≤ a.toNat ∧ a.toNat < base + image.length then image.getD (a.toNat - base) 0 else memRead s a := by
  induction image generalizing s base with
  | nil => exact (if_neg (by rw [List.length_nil]; omega)).symm
  | cons v image ih =>
    rw [List.length_cons] at hfit ⊢
    have haddr : a = BitVec.ofNat 16 base ↔ a.toNat = base := by
      rw [← BitVec.toNat_inj, BitVec.toNat_ofNat, Nat.mod_eq_of_lt (by omega)]
    rw [hostWriteAll, ih (by omega), memRead_memWrite]
    rcases lt_trichotomy a.toNat base with hlt | heq | hgt
    · rw [if_neg (by omega), if_neg (haddr.not.mpr hlt.ne), if_neg (by omega)]
    · rw [if_neg (by omega), if_pos (haddr.mpr heq), if_pos (by omega), heq, Nat.sub_self]
      rfl
    · have hindex : a.toNat - base = a.toNat - (base + 1) + 1 := by omega
      rw [if_neg (haddr.not.mpr hgt.ne'), hindex, List.getD_cons_succ]
      exact if_congr (by omega) rfl rfl

end Sys2Proof.Machine
end

section
/-! The statements of spec/60_exceptions.md about the core's one fault and the loader, and those of
spec/70_reset_and_hazards.md. -/

namespace Sys2Proof.Machine

/-- Settles O8: of the three outcomes of a step (R131, R139) a running core has the last two, and `exec` completes on every
form but the invalid one. -/
theorem onlyInvalidOpcodesFault : Obligations.OnlyInvalidOpcodesFault := by
  unfold Obligations.OnlyInvalidOpcodesFault
  refine ⟨fun s hrun => ?running, fun _ _ => rfl, fun _ s => exec_completes s⟩
  case running =>
    obtain ⟨-, hinvalid, -⟩ := stepHasThreeOutcomes s
    exact ⟨hinvalid hrun, step_completes hrun⟩

/-- Settles O17: the loader reports an image past the address space and writes every other. -/
theorem loaderWritesTheImageOrFails : Obligations.LoaderWritesTheImageOrFails := by
  unfold Obligations.LoaderWritesTheImageOrFails
  exact fun base image s => ⟨fun hover => if_neg hover.not_ge,
    fun hfit => ⟨_, if_pos hfit, hostWriteAll_frame s base image, memRead_hostWriteAll hfit s⟩⟩

/-- Settles O15: reset lists no byte, and placing an instruction there is three stores, which keep the canonical form. -/
theorem resetMemoryIsCanonical : Obligations.ResetMemoryIsCanonical := by
  unfold Obligations.ResetMemoryIsCanonical
  have hreset : Canonical State.reset := rfl
  exact ⟨⟨hreset, fun nbits w => withFetchWord_wf nbits w hreset, fun _ hm => hm⟩, fun _ => rfl, fun _ _ => rfl,
    fun _ => rfl⟩

/-- Settles O16: the reset clears HALTED, so the next step runs what is fetched at 0x0000. -/
theorem resetOperationEntersAtZero : Obligations.ResetOperationEntersAtZero := by
  unfold Obligations.ResetOperationEntersAtZero
  intro s
  refine ⟨rfl, ?_⟩
  rw [step_running (hostReset_halted s), fetchInstr_hostReset]

end Sys2Proof.Machine
end
